-- ==== Sys2Proof/Word.lean ====
section
/-! DEFINITION. The words of the Eftor 2240 as the manual sizes them (00_scope.md "Conventions"; 05 R94; 07 R130). -/

namespace Sys2Proof

/-- A byte of the management link, of a memory beat or of the boot image. -/
abbrev Byte := BitVec 8

/-- A 32-bit byte address (00_scope.md "Addresses and sizes"). -/
abbrev Address := BitVec 32

/-- The eight bytes of one beat, the byte at the lowest address in the lowest eight bits. -/
abbrev Beat := BitVec 64

/-- The eight byte-lane enables of one beat (R94), lane 0 in bit 0. -/
abbrev Lanes := BitVec 8

/-- A 32-bit epoch number (R86), counted modulo 2^32. -/
abbrev Epoch := BitVec 32

/-- A place in the 16-bit index space of the management link (R158). -/
abbrev Index := BitVec 16

/-- W0 to W15 (R1). -/
abbrev WindowId := Fin 16

/-- G0 to G3 (R56). -/
abbrev GroupId := Fin 4

/-- E0, E1 and E2 (R83). -/
abbrev SourceId := Fin 3

/-- A master ID 0..15 (R94). -/
abbrev MasterId := Fin 16

end Sys2Proof
end

