-- ==== Sys2Proof/Syntax.lean ====
section
/-! DEFINITION. The commands of the part: one constructor for each row of spec/opcode_table.json, with what the outside
gives with it. A command is one event that reaches the part (00_scope.md "Events and order"). -/

namespace Sys2Proof

/-- The transfer kinds of the S-port (R94). -/
inductive TransferKind where
  | read
  | write
  | lockedRead
  | unlockWrite
  deriving DecidableEq, Repr

/-- An upstream transfer request as a master presents it (R94). -/
structure Request where
  master : MasterId
  tag : Fin 32
  kind : TransferKind
  address : Address
  /-- The number of 8-byte beats, 1..8. -/
  beats : Nat
  /-- One value per beat; writes only. -/
  data : List Beat
  /-- One set of byte enables per beat; writes only. -/
  lanes : List Lanes
  deriving DecidableEq, Repr

/-- The status of a memory response (R130). -/
inductive MemStatus where
  | okay
  | error
  deriving DecidableEq, Repr

/-- The commands. The seven link commands ENABLE to SOFT_RESET are each the completion of their code byte at index 0x0001
of a write frame (R164), so their argument is the one the link holds; the link rows that carry a byte are each the completion
of that data byte at the current index of a write frame (R159, R160). -/
inductive Instr where
  /-- REQUEST_ACCEPTANCE (R97, R98): a request is offered on the S-port. -/
  | requestAcceptance (r : Request)
  /-- MEM_GRANT (R133): the arbiter makes one grant decision for the lowest FREE slot. -/
  | memGrant
  /-- MEM_RESPONSE (R137, R138): a response with its identifier, status and beats. -/
  | memResponse (identifier : Fin 12) (status : MemStatus) (data : List Beat)
  /-- MEM_TIMEOUT (R139): the response timer of this slot has reached its limit. -/
  | memTimeout (slot : Fin 12)
  /-- FENCE_END (R140): the fence timer of this slot has reached its limit. -/
  | fenceEnd (slot : Fin 12)
  /-- COPIER_TAKE (R42, R43): the first idle copier takes the first candidate line. -/
  | copierTake
  /-- HOLD_LIMIT_EXPIRY (R108): the hold count of the transfer in this slot has reached its limit. -/
  | holdLimitExpiry (slot : Fin 8)
  /-- LOCK_LIMIT_EXPIRY (R125): the age of this lock entry has reached its limit. -/
  | lockLimitExpiry (entry : Fin 4)
  /-- CLOSE_TIMER_EXPIRY (R87): the remaining count of this source's close timer has reached 0. -/
  | closeTimerExpiry (source : SourceId)
  /-- SYNC_RISING_EDGE (R84): the rising edge that a sample of SYNC0 (0) or SYNC1 (1) found is taken, and the input's line has
  this level from then on (log 6). -/
  | syncRisingEdge (input : Fin 2) (level : Bool)
  /-- ENABLE w (R23): code 0x01. -/
  | enable
  /-- DISABLE w (R26): code 0x02. -/
  | disable
  /-- SUSPEND w (R27): code 0x03. -/
  | suspend
  /-- PUBLISH g (R63): code 0x04. -/
  | publish
  /-- ROLLBACK g (R78): code 0x05. -/
  | rollback
  /-- BOUNDARY (R85): code 0x06. -/
  | boundary
  /-- SOFT_RESET (R167): code 0x07. -/
  | softReset
  /-- FRAME_OPEN (R158): MSEL_N falls. The frame's bytes reach the part as the rows of completed bytes, or as bits on the line
  (R157; log 25). -/
  | frameOpen
  /-- IDENTIFIER_BYTE (R158): the first byte of a frame is complete. -/
  | identifierByte (b : Byte)
  /-- INDEX_BYTES (R158): the second and third bytes are complete, high byte first. -/
  | indexBytes (high low : Byte)
  /-- FRAME_END (R159): MSEL_N rises. -/
  | frameEnd
  /-- FIELD_WRITE (R160): a written data byte that is staged, is the command argument, is refused or lands in no field. -/
  | fieldWrite (b : Byte)
  /-- WINDOW_CONFIG_WRITE (R5): the committing byte of a window's configuration field. -/
  | windowConfigWrite (b : Byte)
  /-- GROUP_CONFIG_WRITE (R81): the committing byte of a group's producers, source, lag or trigger. -/
  | groupConfigWrite (b : Byte)
  /-- HOLD_WRITE (R65): the byte of a group's hold flag. -/
  | holdWrite (b : Byte)
  /-- CLOSE_DELAY_WRITE (R88): the committing byte of a source's close delay. -/
  | closeDelayWrite (b : Byte)
  /-- LIMIT_WRITE (R163): the committing byte of the hold, lock or memory limit. -/
  | limitWrite (b : Byte)
  /-- EVENT_MASK_WRITE (R153): the committing byte of the event mask. -/
  | eventMaskWrite (b : Byte)
  /-- OVERRUN_FLAG_CLEAR (R149): the byte 0 written to the overrun flag. -/
  | overrunFlagClear
  /-- WRITE_REFUSED_FLAG_CLEAR (R162): the byte 0 written to the write-refused flag. -/
  | writeRefusedFlagClear
  /-- HEAD_RECORD_REMOVAL (R150, R159): a data byte of a read frame is complete; at index 0x002F it removes the head record
  that the snapshot names. -/
  | headRecordRemoval
  /-- PWRUP_N_FALL (R172). -/
  | pwrupNFall
  /-- PWRUP_N_RELEASE (R173), with the level of the BOOT strap. -/
  | pwrupNRelease (boot : Bool)
  /-- RST_N_FALL (R172). -/
  | rstNFall
  /-- RST_N_RELEASE (R155, R173, R179). -/
  | rstNRelease
  /-- COMMAND_CODE_NAMING_NO_COMMAND (R165): the code byte 0x00 or 0x08..0xFF. -/
  | commandCodeNamingNoCommand (code : Byte)
  deriving DecidableEq, Repr

end Sys2Proof
end

