-- ==== Sys2Proof/Config.lean ====
section
/-! DEFINITION. The capacities the part has, the power-on values of its limits, and the one free value of the model. -/

namespace Sys2Proof.Config

/-- R145: the event queue holds at most 32 records. -/
def eventCapacity : Nat := 32

/-- R37: the demand queue holds at most 8 entries. -/
def demandCapacity : Nat := 8

/-- R135: the share counter goes up to 4. -/
def shareLimit : Nat := 4

/-- R163: power-on value of the hold limit. -/
def holdLimit : BitVec 16 := 4096

/-- R163: power-on value of the lock limit. -/
def lockLimit : BitVec 16 := 1024

/-- R163: power-on value of the memory limit. -/
def memoryLimit : BitVec 16 := 2048

/-- R174: the address of the boot pointer. -/
def bootPointerAddress : Address := 0x00000040

/-- R175, R185: the signature of a boot image. -/
def bootSignature : Nat := 0x32544645

/-- DESIGN CHOICE (log 14): the beats of a READ that its response does not carry. The first argument is the number of the
use, the second the beat. -/
opaque freeBeat : Nat → Nat → Beat

end Sys2Proof.Config
end

