-- ==== Sys2Proof/Machine/State.lean ====
section
/-! DEFINITION. The state of the part, block by block as 00_scope.md "Block overview" names the blocks, and its value right
after power-on reset. -/

namespace Sys2Proof.Machine

/-! ## Window unit -/

/-- The two physical copies of a window (R2): bank 0 at the home range, bank 1 at the twin range. -/
inductive Bank where
  | bank0
  | bank1
  deriving DecidableEq, Repr

/-- A window's treatment of consumer writes (R14 to R16). -/
inductive ForeignPolicy where
  | error
  | drop
  | both
  deriving DecidableEq, Repr

/-- The six window states (R21). -/
inductive WindowState where
  | disabled
  | seeding
  | active
  | suspended
  | homing
  | faulted
  deriving DecidableEq, Repr

/-- A set of line indices of one window (R31), listed in strictly ascending order. -/
abbrev LineSet := List Nat

/-- A window record (R1), with its line sets (R31) and live-read counts (R34). The dirty and carry counts of R1 are the
lengths of the two sets. -/
structure Window where
  base : Address
  twin : Address
  sizeCode : Byte
  group : GroupId
  policy : ForeignPolicy
  enableAtBoot : Bool
  state : WindowState
  live : Bank
  publishedEpoch : Option Epoch
  faultAddress : Option Address
  dirty : LineSet
  carry : LineSet
  liveReads0 : Nat
  liveReads1 : Nat
  deriving DecidableEq, Repr

/-! ## Carry engine -/

/-- A demand entry (R37): one line of one window. -/
structure DemandEntry where
  window : WindowId
  line : Nat
  deriving DecidableEq, Repr

/-- Where a copy's line was taken from (R40). -/
inductive CopyOrigin where
  | demand
  | background
  deriving DecidableEq, Repr

/-- What a busy copier is doing (R40). -/
inductive CopyPhase where
  | reading
  | writing
  deriving DecidableEq, Repr

/-- A copy record (R40). `granted` says whether the copier's present request has been issued to memory or still waits at the
arbiter (R131); `taken` is the copy's place in the order of takes (R134). -/
structure CopyRecord where
  window : WindowId
  line : Nat
  source : Address
  destination : Address
  origin : CopyOrigin
  owned : Bool
  phase : CopyPhase
  buffer : List Beat
  granted : Bool
  taken : Nat
  deriving DecidableEq, Repr

/-- A copier (R40). -/
inductive Copier where
  | idle
  | busy (record : CopyRecord)
  deriving DecidableEq, Repr

/-- The carry engine: the demand queue, oldest entry first (R37), and the two copiers (R40). -/
structure CarryEngine where
  demand : List DemandEntry
  copiers : Vector Copier 2
  nextTake : Nat
  deriving DecidableEq, Repr

/-! ## Publication controller -/

/-- 1 or 2: the values of a lag and of a countdown (R56). -/
inductive Lag where
  | one
  | two
  deriving DecidableEq, Repr

/-- A present trigger (R59): a window and the number of an 8-byte word in it, 0..131071. -/
structure Trigger where
  window : WindowId
  offset : Nat
  deriving DecidableEq, Repr

/-- The three group states (R58). The countdown and the late mark are present exactly while the group is ARMED. -/
inductive GroupState where
  | opened
  | armed (countdown : Lag) (late : Bool)
  | blocked
  deriving DecidableEq, Repr

/-- A group record (R56). `GroupState.opened` is the state the manual writes OPEN. -/
structure Group where
  producers : BitVec 16
  source : SourceId
  lag : Lag
  hold : Bool
  trigger : Option Trigger
  state : GroupState
  rollbackPending : Bool
  lastEpoch : Option Epoch
  deriving DecidableEq, Repr

/-! ## Epoch timing unit -/

/-- The phase of a source (R83): OPEN after a boundary, CLOSED after its close timer expires. -/
inductive SourcePhase where
  | opened
  | closed
  deriving DecidableEq, Repr

/-- A close timer (R87). `expiring` is a running timer with a count of 1 whose last tick has come: that tick and the expiry
are taken together, as the event CLOSE_TIMER_EXPIRY (log 4). -/
inductive CloseTimer where
  | stopped
  | running (remaining : BitVec 24)
  | expiring
  deriving DecidableEq, Repr

/-- A source record (R83). -/
structure Source where
  counter : Epoch
  phase : SourcePhase
  closeDelay : BitVec 24
  closeTimer : CloseTimer
  deriving DecidableEq, Repr

/-- The three sources, the previous samples of SYNC0 and SYNC1 (R84), absent from a reset until the first sample, and for each
input whether a sample found a rising edge whose boundary is not yet taken (log 6). -/
structure EpochTiming where
  sources : Vector Source 3
  lastSample : Vector (Option Bool) 2
  edges : Vector Bool 2
  deriving DecidableEq, Repr

/-! ## System port -/

/-- A master's role in a window (R6). -/
inductive Role where
  | producer
  | consumer
  deriving DecidableEq, Repr

/-- The route that routing gave a transfer (R96). -/
inductive Route where
  | passThrough
  | liveBank
  | shadowBank
  | bothBanks
  deriving DecidableEq, Repr

/-- The phase of an occupied transaction slot (R96, R98). -/
inductive TransferPhase where
  | waiting
  | ready
  | issued
  deriving DecidableEq, Repr

/-- A hold count and the hold limit the transfer took when it first entered WAITING (R107). -/
structure HoldCount where
  count : Nat
  limit : Nat
  deriving DecidableEq, Repr

/-- One memory request of a transfer (R96, R105): absent, presented to the arbiter (a shadow write, with its bank), issued
and not answered, or answered. -/
inductive MemoryResult where
  | absent
  | presented (bank : Bank) (address : Address)
  | outstanding (address : Address)
  | answered (address : Address) (ok : Bool)
  deriving DecidableEq, Repr

/-- An occupied slot of the transaction table (R96). `first` is the read, the one write or the live write; `shadow` is the
second write of a BOTH transfer (R16). -/
structure Transfer where
  request : Request
  acceptance : Nat
  window : Option WindowId
  role : Option Role
  route : Route
  readAddress : Option Address
  countedBank : Option Bank
  triggerMatch : Option GroupId
  phase : TransferPhase
  hold : Option HoldCount
  first : MemoryResult
  shadow : MemoryResult
  deriving DecidableEq, Repr

/-- The statuses of a response to a master (R95). -/
inductive Status where
  | okay
  | retry
  | error
  deriving DecidableEq, Repr

/-- A response on the S-port (R95). -/
structure Response where
  master : MasterId
  tag : Fin 32
  status : Status
  data : List Beat
  deriving DecidableEq, Repr

/-- The system port: the transaction table (R96), the next acceptance number (R97), the requests that stand offered on the
port and are not accepted (R97; log 7), and the responses given in the latest event (R95; log 15). -/
structure SystemPort where
  slots : Vector (Option Transfer) 8
  nextAcceptance : Nat
  offered : List Request
  responses : List Response
  deriving DecidableEq, Repr

/-! ## Interlock unit -/

/-- A held entry of the lock table (R116). -/
structure Lock where
  master : MasterId
  line : Address
  limit : Nat
  age : Nat
  claim : Option (Fin 32)
  deriving DecidableEq, Repr

/-! ## Memory port -/

/-- The memory operations (R130). -/
inductive MemKind where
  | read
  | write
  deriving DecidableEq, Repr

/-- A memory request (R130); its identifier is the number of the slot that holds it. -/
structure MemRequest where
  kind : MemKind
  address : Address
  beats : Nat
  data : List Beat
  lanes : List Lanes
  deriving DecidableEq, Repr

/-- Which request of a transfer a memory slot serves (R105). -/
inductive TransferPart where
  | first
  | shadow
  deriving DecidableEq, Repr

/-- The owner of a PENDING slot (R132). -/
inductive Owner where
  | transfer (slot : Fin 8) (part : TransferPart)
  | copier (c : Fin 2)
  | startUp
  deriving DecidableEq, Repr

/-- A slot of the memory request table (R132). -/
inductive MemSlot where
  | free
  | pending (request : MemRequest) (owner : Owner) (timer limit : Nat)
  | fenced (timer limit : Nat)
  deriving DecidableEq, Repr

/-- The memory port: the request table (R132), the share counter (R135), and the request presented to memory in the latest
event, with its identifier (R133; log 15). -/
structure MemoryPort where
  slots : Vector MemSlot 12
  share : Nat
  presented : Option (Fin 12 × MemRequest)
  deriving DecidableEq, Repr

/-! ## Event queue -/

/-- The cause of a RESET record (R146). -/
inductive ResetCause where
  | line
  | soft
  deriving DecidableEq, Repr

/-- The cause of a BOOT_BAD record (R146, R178). -/
inductive BootCause where
  | pointer
  | memory
  | signature
  | checksum
  | count
  deriving DecidableEq, Repr

/-- The eighteen kinds of event record with their fields (R146). -/
inductive EventRecord where
  | flip (group : GroupId) (epoch : Epoch)
  | missed (group : GroupId) (epoch : Epoch)
  | seedDone (window : WindowId)
  | homeDone (window : WindowId)
  | rollbackDone (group : GroupId)
  | windowFault (window : WindowId) (address : Address)
  | memTimeout (address : Address) (window : Option WindowId)
  | align (master : MasterId) (address : Address)
  | twinAccess (master : MasterId) (address : Address) (window : WindowId)
  | foreignWrite (master : MasterId) (address : Address) (window : WindowId)
  | holdExpired (master : MasterId) (address : Address) (window : Option WindowId)
  | lockBroken (master : MasterId) (address : Address)
  | unlockOrphan (master : MasterId) (address : Address)
  | armRefused (group : GroupId) (master : Option MasterId)
  | armDropped (group : GroupId)
  | reset (cause : ResetCause)
  | bootDone
  | bootBad (cause : BootCause)
  deriving DecidableEq, Repr

/-- The event queue: the records, oldest first (R145), the overrun flag (R149), the event mask (R153) and the level of the
line IRQ_N (R154). -/
structure EventQueue where
  records : List EventRecord
  overrun : Bool
  mask : BitVec 32
  irqLow : Bool
  deriving DecidableEq, Repr

/-! ## Management link -/

/-- The direction of a frame (R158). -/
inductive Direction where
  | readFrame
  | writeFrame
  deriving DecidableEq, Repr

/-- The frame state (R158); READ and WRITE hold the current index (R159). -/
inductive Frame where
  | idle
  | ident
  | index (direction : Direction)
  | read (index : Index)
  | write (index : Index)
  | skip
  deriving DecidableEq, Repr

/-- The fields of the index space (R180 to R183). -/
inductive Field where
  | argument
  | code
  | result
  | writeRefused
  | holdLimit
  | lockLimit
  | memoryLimit
  | eventMask
  | eventCount
  | overrun
  | headRecord
  | windowBase (w : WindowId)
  | windowTwin (w : WindowId)
  | windowSizeCode (w : WindowId)
  | windowGroup (w : WindowId)
  | windowPolicy (w : WindowId)
  | windowEnableAtBoot (w : WindowId)
  | windowStatus (w : WindowId)
  | groupProducers (g : GroupId)
  | groupSource (g : GroupId)
  | groupLag (g : GroupId)
  | groupHold (g : GroupId)
  | groupTrigger (g : GroupId)
  | groupStatus (g : GroupId)
  | sourceCounter (e : SourceId)
  | sourcePhase (e : SourceId)
  | sourceCloseDelay (e : SourceId)
  | sourceCloseTimer (e : SourceId)
  deriving DecidableEq, Repr

/-- The snapshot of a field (R161): its bytes, lowest index first, and, for the head record, whether it names a record
(R150). -/
structure Snapshot where
  field : Field
  bytes : List Byte
  namesRecord : Bool
  deriving DecidableEq, Repr

/-- The command results (R166). -/
inductive CommandResult where
  | none
  | accepted
  | refusedState
  | refusedArgument
  | refusedOverlap
  | refusedBoot
  deriving DecidableEq, Repr

/-- The management link interface (09 opening list): the frame state with direction and index; the bits of the byte in
progress in the order of their arrival, whose number is the bit count (R157); the first index byte, once it is complete
(R158); the staging buffer by index (R160); the snapshot (R161); the byte a read frame is sending and the bit that stands on
MDO, none where MDO is undriven (R157, R159); the command argument, last code and result (R164, R166); the write-refused
flag (R162) and the three limits (R163). -/
structure Link where
  frame : Frame
  inBits : List Bool
  indexHigh : Option Byte
  staging : List (Index × Byte)
  snapshot : Option Snapshot
  out : Option Byte
  mdo : Option Bool
  argument : Byte
  code : Byte
  result : CommandResult
  writeRefused : Bool
  holdLimit : BitVec 16
  lockLimit : BitVec 16
  memoryLimit : BitVec 16
  deriving DecidableEq, Repr

/-! ## Start-up controller -/

/-- The boot states (R173). -/
inductive BootState where
  | none
  | pending
  | pointer
  | image
  | ended
  deriving DecidableEq, Repr

/-- The one read the start-up controller has presented (R174); `granted` once it is issued. -/
structure BootRead where
  address : Address
  beats : Nat
  granted : Bool
  deriving DecidableEq, Repr

/-- The start-up controller: the boot state, its present read, the boot pointer, and the image bytes read so far (R173 to
R175). -/
structure StartUp where
  state : BootState
  read : Option BootRead
  pointer : Address
  bytes : List Byte
  deriving DecidableEq, Repr

/-! ## The part -/

/-- The levels of the input pins: PWRUP_N, RST_N and MSEL_N are low while their flag is set (R172, R158); SYNC0 and SYNC1
are high while theirs is (R84), and so is MCLK (R157). `line` holds the bits that the controller has yet to send on MDI, one
at each rising edge of MCLK while MSEL_N is low; it is given from outside, as the waiting commands are (log 25). -/
structure Pins where
  pwrupLow : Bool
  rstLow : Bool
  mselLow : Bool
  syncHigh : Vector Bool 2
  mclkHigh : Bool
  line : List Bool
  deriving DecidableEq, Repr

/-- The state of the part. -/
structure State where
  windows : Vector Window 16
  carry : CarryEngine
  groups : Vector Group 4
  timing : EpochTiming
  port : SystemPort
  locks : Vector (Option Lock) 4
  mem : MemoryPort
  events : EventQueue
  link : Link
  startUp : StartUp
  pins : Pins
  /-- The model's own: how many free values have been used (log 14). -/
  freeUses : Nat
  /-- The commands that are waiting, the next one first. -/
  pending : List Instr
  deriving DecidableEq, Repr

/-- Reasons to stop with a fault: none. Every rule of the manual gives a next state, and what the manual calls a fault is a
window in FAULTED or an ERROR answer. Having no constructor is safe: no behaviour is cut off. -/
inductive Fault where
  deriving DecidableEq, Repr

/-- Reasons to refuse a command. -/
inductive Refusal where
  /-- Raised by `exec` for a command that has no meaning yet; safe: nothing is claimed of it. No arm raises it. -/
  | notModelled (mnemonic : String)
  deriving DecidableEq, Repr

/-! ## Values at power-on -/

/-- R30, power-on column. -/
def Window.powerOn : Window where
  base := 0
  twin := 0
  sizeCode := 0
  group := 0
  policy := .error
  enableAtBoot := false
  state := .disabled
  live := .bank0
  publishedEpoch := none
  faultAddress := none
  dirty := []
  carry := []
  liveReads0 := 0
  liveReads1 := 0

/-- R55, power-on column. -/
def CarryEngine.powerOn : CarryEngine where
  demand := []
  copiers := Vector.replicate 2 .idle
  nextTake := 0

/-- R82, power-on column. -/
def Group.powerOn : Group where
  producers := 0
  source := 0
  lag := .one
  hold := false
  trigger := none
  state := .opened
  rollbackPending := false
  lastEpoch := none

/-- R92, power-on column. -/
def Source.powerOn : Source where
  counter := 0
  phase := .opened
  closeDelay := 0
  closeTimer := .stopped

/-- R92, power-on column: the first sample after the release becomes the previous sample (R84). -/
def EpochTiming.powerOn : EpochTiming where
  sources := Vector.replicate 3 Source.powerOn
  lastSample := Vector.replicate 2 none
  edges := Vector.replicate 2 false

/-- R114, power-on column. The acceptance order begins afresh; that its first number is 0 is the model's choice (log 16). -/
def SystemPort.powerOn : SystemPort where
  slots := Vector.replicate 8 none
  nextAcceptance := 0
  offered := []
  responses := []

/-- R144, power-on column. -/
def MemoryPort.powerOn : MemoryPort where
  slots := Vector.replicate 12 .free
  share := 0
  presented := none

/-- R155, power-on column. -/
def EventQueue.powerOn : EventQueue where
  records := []
  overrun := false
  mask := 0
  irqLow := false

/-- R171, power-on column. -/
def Link.powerOn : Link where
  frame := .idle
  inBits := []
  indexHigh := none
  staging := []
  snapshot := none
  out := none
  mdo := none
  argument := 0
  code := 0
  result := .none
  writeRefused := false
  holdLimit := Config.holdLimit
  lockLimit := Config.lockLimit
  memoryLimit := Config.memoryLimit

/-- R173: no boot load requested. -/
def StartUp.powerOn : StartUp where
  state := .none
  read := none
  pointer := 0
  bytes := []

/-- The part right after power-on reset: every block at its power-on values (R172), PWRUP_N released with the BOOT strap low,
RST_N and MSEL_N high, SYNC0, SYNC1 and MCLK low (log 1). -/
def State.reset : State where
  windows := Vector.replicate 16 Window.powerOn
  carry := CarryEngine.powerOn
  groups := Vector.replicate 4 Group.powerOn
  timing := EpochTiming.powerOn
  port := SystemPort.powerOn
  locks := Vector.replicate 4 none
  mem := MemoryPort.powerOn
  events := EventQueue.powerOn
  link := Link.powerOn
  startUp := StartUp.powerOn
  pins :=
    { pwrupLow := false
      rstLow := false
      mselLow := false
      syncHigh := Vector.replicate 2 false
      mclkHigh := false
      line := [] }
  freeUses := 0
  pending := []

end Sys2Proof.Machine
end

