-- ==== Sys2Proof/WellFormed.lean ====
section
/-! DEFINITION. What the ports can present: the ranges the manual gives a command's operands (R94, R130, R165). -/

namespace Sys2Proof

/-- Whether a transfer kind carries data and lanes (R94: writes only). -/
def TransferKind.isWrite : TransferKind → Bool
  | .read => false
  | .lockedRead => false
  | .write => true
  | .unlockWrite => true

/-- R94: 1..8 beats; a write carries one value and one set of lanes per beat, a read carries neither. -/
def Request.wellFormed (r : Request) : Bool :=
  decide (1 ≤ r.beats) && decide (r.beats ≤ 8) &&
    (if r.kind.isWrite then decide (r.data.length = r.beats) && decide (r.lanes.length = r.beats)
     else r.data.isEmpty && r.lanes.isEmpty)

/-- R165: codes 0x01 to 0x07 name a command; every other code names none. -/
def namesCommand (code : Byte) : Bool :=
  decide (1 ≤ code.toNat) && decide (code.toNat ≤ 7)

/-- The operands a command may carry. A memory response has at most the eight beats of a line (R130). -/
def Instr.wellFormed : Instr → Bool
  | .requestAcceptance r => r.wellFormed
  | .memResponse _ _ data => decide (data.length ≤ 8)
  | .commandCodeNamingNoCommand code => !namesCommand code
  | .memGrant | .memTimeout _ | .fenceEnd _ | .copierTake | .holdLimitExpiry _ | .lockLimitExpiry _
  | .closeTimerExpiry _ | .syncRisingEdge _ _ | .enable | .disable | .suspend | .publish | .rollback | .boundary
  | .softReset | .frameOpen | .identifierByte _ | .indexBytes _ _ | .frameEnd | .fieldWrite _ | .windowConfigWrite _
  | .groupConfigWrite _ | .holdWrite _ | .closeDelayWrite _ | .limitWrite _ | .eventMaskWrite _ | .overrunFlagClear
  | .writeRefusedFlagClear | .headRecordRemoval | .pwrupNFall | .pwrupNRelease _ | .rstNFall | .rstNRelease => true

end Sys2Proof
end

