-- ==== Sys2Proof/Machine/Operands.lean ====
section
/-! DEFINITION. What a command's operands mean: lines and addresses, the geometry of a window (R2), the tests on a request
(R94, R102, R61), line sets (R31), bytes, and the little-endian composition of fields (R160). -/

namespace Sys2Proof

/-! ## Requests -/

/-- R102: whether the address is a multiple of 8 and the transfer lies within one line. -/
def Request.aligned (r : Request) : Bool :=
  decide (r.address.toNat % 8 = 0) && decide (r.address.toNat % 64 + 8 * r.beats ≤ 64)

/-- R94, R52: a WRITE of 8 beats at a line start with all 64 lanes enabled. -/
def Request.wholeLine (r : Request) : Bool :=
  decide (r.kind = .write) && decide (r.beats = 8) && decide (r.address.toNat % 64 = 0)
    && decide (r.lanes = List.replicate 8 (0xFF : Lanes))

/-- The address of beat `j` of a request (R94). -/
def Request.beatAddress (r : Request) (j : Nat) : Address :=
  r.address + BitVec.ofNat 32 (8 * j)

/-- Whether some enabled lane of a write lies in the 8-byte word at an address (R61). -/
def Request.touchesWord (r : Request) (word : Address) : Bool :=
  (List.range r.beats).any fun j => decide (r.beatAddress j = word) && decide (r.lanes.getD j 0 ≠ 0)

end Sys2Proof

namespace Sys2Proof.Machine

/-! ## Tables -/

/-- Every place of a table of `n` entries, ascending. -/
def places (n : Nat) : List (Fin n) :=
  List.ofFn id

/-- A table with every entry changed. -/
def mapTable {α : Type} {n : Nat} (f : Fin n → α → α) (v : Vector α n) : Vector α n :=
  Vector.ofFn fun i => f i v[i]

/-- The places, ascending, whose entry satisfies a test. -/
def placesWhere {α : Type} {n : Nat} (p : α → Bool) (v : Vector α n) : List (Fin n) :=
  (places n).filter fun i => p v[i]

/-! ## Lines (Terms: a line is a 64-byte, 64-byte-aligned block) -/

/-- The address of the first byte of the line that holds an address. -/
def lineOfAddress (a : Address) : Address :=
  a &&& 0xFFFFFFC0

/-! ## Banks and window geometry (R2, R3) -/

/-- The other bank of a window (R3). -/
def Bank.other : Bank → Bank
  | .bank0 => .bank1
  | .bank1 => .bank0

/-- R3: the shadow bank is the bank that is not live. -/
def Window.shadow (w : Window) : Bank :=
  w.live.other

/-- R2: the size in bytes, 2^k. -/
def Window.size (w : Window) : Nat :=
  2 ^ w.sizeCode.toNat

/-- R2: the number of lines, 2^(k−6). -/
def Window.lines (w : Window) : Nat :=
  2 ^ (w.sizeCode.toNat - 6)

/-- R2: the first address of a bank's range. -/
def Window.bankBase (w : Window) : Bank → Address
  | .bank0 => w.base
  | .bank1 => w.twin

/-- Whether an address lies in the `size` bytes from a base. -/
def inRange (base : Address) (size : Nat) (a : Address) : Bool :=
  decide (base.toNat ≤ a.toNat) && decide (a.toNat < base.toNat + size)

/-- R2: the home range. -/
def Window.inHome (w : Window) (a : Address) : Bool :=
  inRange w.base w.size a

/-- R2: the twin range. -/
def Window.inTwin (w : Window) (a : Address) : Bool :=
  inRange w.twin w.size a

/-- Whether an address lies in either range of a window (R22, R186). -/
def Window.inRanges (w : Window) (a : Address) : Bool :=
  w.inHome a || w.inTwin a

/-- R2: the line index of an address of the home range. -/
def Window.lineIndex (w : Window) (a : Address) : Nat :=
  (a - w.base).toNat / 64

/-- R2, R9: the physical address, in a bank, of an address of the home range. -/
def Window.copyAddress (w : Window) (b : Bank) (a : Address) : Address :=
  w.bankBase b + (a - w.base)

/-- R2: the first byte of a line's copy in a bank. -/
def Window.lineAddress (w : Window) (b : Bank) (line : Nat) : Address :=
  w.bankBase b + BitVec.ofNat 32 (64 * line)

/-- The live-read count of a bank (R34). -/
def Window.liveReads (w : Window) : Bank → Nat
  | .bank0 => w.liveReads0
  | .bank1 => w.liveReads1

/-- A window with the live-read count of a bank replaced (R34). -/
def Window.withLiveReads (w : Window) (b : Bank) (n : Nat) : Window :=
  match b with
  | .bank0 => { w with liveReads0 := n }
  | .bank1 => { w with liveReads1 := n }

/-- R21: the states that serve two banks to producers and consumers. -/
def WindowState.servesTwo : WindowState → Bool
  | .seeding => true
  | .active => true
  | .disabled | .suspended | .homing | .faulted => false

/-- R57: the states that take part in the flip gate. -/
def WindowState.takesPart : WindowState → Bool
  | .seeding | .active | .homing | .faulted => true
  | .disabled | .suspended => false

/-- R41 condition 1: the states whose carry lines are copied. -/
def WindowState.copies : WindowState → Bool
  | .seeding | .active | .homing => true
  | .disabled | .suspended | .faulted => false

/-- R23 test 4: the size codes that ENABLE accepts. -/
def Window.sizeCodeValid (w : Window) : Bool :=
  decide (12 ≤ w.sizeCode.toNat) && decide (w.sizeCode.toNat ≤ 20)

/-- R23 test 5: base and twin are multiples of 2^k. -/
def Window.basesAligned (w : Window) : Bool :=
  decide (w.base.toNat % w.size = 0) && decide (w.twin.toNat % w.size = 0)

/-- Whether two ranges of addresses share one. -/
def rangesOverlap (a : Address) (n : Nat) (b : Address) (m : Nat) : Bool :=
  decide (a.toNat < b.toNat + m) && decide (b.toNat < a.toNat + n)

/-- R23 test 6, failing: home and twin ranges overlap each other. -/
def Window.selfOverlap (w : Window) : Bool :=
  rangesOverlap w.base w.size w.twin w.size

/-- R23 test 7, failing: some range of one window overlaps some range of another. -/
def Window.overlaps (v w : Window) : Bool :=
  rangesOverlap v.base v.size w.base w.size || rangesOverlap v.base v.size w.twin w.size
    || rangesOverlap v.twin v.size w.base w.size || rangesOverlap v.twin v.size w.twin w.size

/-! ## Line sets (R31) -/

/-- Every line of a window (R24, R26). -/
def Window.everyLine (w : Window) : LineSet :=
  List.range w.lines

/-- A line joins a set; a set holds no duplicates and is listed ascending. -/
def LineSet.insert (line : Nat) : LineSet → LineSet
  | [] => [line]
  | x :: xs =>
    if line < x then line :: x :: xs
    else if line = x then x :: xs
    else x :: LineSet.insert line xs

/-- A line leaves a set. -/
def LineSet.remove (line : Nat) (l : LineSet) : LineSet :=
  l.filter fun x => decide (x ≠ line)

/-- Every line of one set joins another (R54). -/
def LineSet.union (l m : LineSet) : LineSet :=
  l.foldl (fun acc x => LineSet.insert x acc) m

/-! ## Bytes -/

/-- The bytes of a little-endian value, lowest first (R180). -/
def bytesOf (n : Nat) : Nat → List Byte
  | 0 => []
  | k + 1 => BitVec.ofNat 8 n :: bytesOf (n / 256) k

/-- The value of little-endian bytes, lowest first. -/
def valueOf : List Byte → Nat
  | [] => 0
  | b :: bs => b.toNat + 256 * valueOf bs

/-- The eight bytes of a beat, lowest address first. -/
def beatBytes (d : Beat) : List Byte :=
  bytesOf d.toNat 8

/-- A flag as the index space shows it: 0 clear, 1 set. -/
def flagByte (b : Bool) : Byte :=
  if b then 1 else 0

/-- Whether a master is in a producer set (R182: position m is master m). -/
def inProducers (producers : BitVec 16) (m : MasterId) : Bool :=
  producers.getLsbD m.val

end Sys2Proof.Machine
end

