-- ==== Sys2Proof/Machine/Flags.lean ====
section
/-! DEFINITION. The flags the part computes: the enables of the event mask (R153), IRQ_N (R154), the overrun flag (R148, R149)
and the write-refused flag (R162), with the operations on the event queue that change them. -/

namespace Sys2Proof.Machine

/-- The kind number of a record (R146). -/
def EventRecord.kind : EventRecord → Nat
  | .flip _ _ => 1
  | .missed _ _ => 2
  | .seedDone _ => 3
  | .homeDone _ => 4
  | .rollbackDone _ => 5
  | .windowFault _ _ => 6
  | .memTimeout _ _ => 7
  | .align _ _ => 8
  | .twinAccess _ _ _ => 9
  | .foreignWrite _ _ _ => 10
  | .holdExpired _ _ _ => 11
  | .lockBroken _ _ => 12
  | .unlockOrphan _ _ => 13
  | .armRefused _ _ => 14
  | .armDropped _ => 15
  | .reset _ => 16
  | .bootDone => 17
  | .bootBad _ => 18

/-- R153, R184: positions 1..18 of the mask name kinds; the rest hold clear. -/
def maskPositions : BitVec 32 := 0x0007FFFE

/-- R153: whether a record's kind is enabled. -/
def enabledBy (mask : BitVec 32) (r : EventRecord) : Bool :=
  mask.getLsbD r.kind

/-- R154: IRQ_N is low while the queue holds a record whose kind is enabled. -/
def irqCondition (mask : BitVec 32) (records : List EventRecord) : Bool :=
  records.any (enabledBy mask)

/-- R147, R148, R154: a record joins at the tail; at a full queue it is discarded and the overrun flag is set. -/
def EventQueue.append (r : EventRecord) (q : EventQueue) : EventQueue :=
  if q.records.length < Config.eventCapacity then
    { q with records := q.records ++ [r], irqLow := irqCondition q.mask (q.records ++ [r]) }
  else
    { q with overrun := true }

/-- R150, R154: the head leaves. -/
def EventQueue.removeHead (q : EventQueue) : EventQueue :=
  { q with records := q.records.tail, irqLow := irqCondition q.mask q.records.tail }

/-- R153, R154: the mask takes effect; positions that name no kind hold clear. -/
def EventQueue.setMask (mask : BitVec 32) (q : EventQueue) : EventQueue :=
  { q with mask := mask &&& maskPositions, irqLow := irqCondition (mask &&& maskPositions) q.records }

/-- R149: the overrun flag is cleared. -/
def EventQueue.clearOverrun (q : EventQueue) : EventQueue :=
  { q with overrun := false }

/-- R162: a refused write sets the write-refused flag and changes nothing else. -/
def Link.refuse (l : Link) : Link :=
  { l with writeRefused := true }

end Sys2Proof.Machine
end

