-- ==== Sys2Proof/Machine/Ops.lean ====
section
/-! DEFINITION. The named operations every block shares: replacing one block or one record of the state, appending an event
record, giving a response with what it sets in motion (a lock settled, a live-read count lowered, a group armed). -/

namespace Sys2Proof.Machine

/-! ## Replacing a block -/

def State.withWindows (s : State) (x : Vector Window 16) : State := { s with windows := x }
def State.withCarry (s : State) (x : CarryEngine) : State := { s with carry := x }
def State.withGroups (s : State) (x : Vector Group 4) : State := { s with groups := x }
def State.withTiming (s : State) (x : EpochTiming) : State := { s with timing := x }
def State.withPort (s : State) (x : SystemPort) : State := { s with port := x }
def State.withLocks (s : State) (x : Vector (Option Lock) 4) : State := { s with locks := x }
def State.withMem (s : State) (x : MemoryPort) : State := { s with mem := x }
def State.withEvents (s : State) (x : EventQueue) : State := { s with events := x }
def State.withLink (s : State) (x : Link) : State := { s with link := x }
def State.withStartUp (s : State) (x : StartUp) : State := { s with startUp := x }
def State.withPins (s : State) (x : Pins) : State := { s with pins := x }
def State.withFreeUses (s : State) (x : Nat) : State := { s with freeUses := x }
def State.withPending (s : State) (x : List Instr) : State := { s with pending := x }

/-! ## Replacing a record of a block -/

def State.setWindow (s : State) (w : WindowId) (x : Window) : State :=
  s.withWindows (s.windows.set w x)

def State.setGroup (s : State) (g : GroupId) (x : Group) : State :=
  s.withGroups (s.groups.set g x)

def State.setSource (s : State) (e : SourceId) (x : Source) : State :=
  s.withTiming { s.timing with sources := s.timing.sources.set e x }

def State.setSlot (s : State) (i : Fin 8) (x : Option Transfer) : State :=
  s.withPort { s.port with slots := s.port.slots.set i x }

def State.setLock (s : State) (j : Fin 4) (x : Option Lock) : State :=
  s.withLocks (s.locks.set j x)

def State.setMemSlot (s : State) (k : Fin 12) (x : MemSlot) : State :=
  s.withMem { s.mem with slots := s.mem.slots.set k x }

def State.setCopier (s : State) (c : Fin 2) (x : Copier) : State :=
  s.withCarry { s.carry with copiers := s.carry.copiers.set c x }

def State.withDemand (s : State) (x : List DemandEntry) : State :=
  s.withCarry { s.carry with demand := x }

/-! ## The outputs of an event (log 15) -/

/-- The ports before an event has given anything: no response, no request to memory. -/
def State.quiet (s : State) : State :=
  (s.withPort { s.port with responses := [] }).withMem { s.mem with presented := none }

/-! ## Conditions that several blocks read -/

/-- R173: a boot load is in progress while the boot state is PENDING, POINTER or IMAGE. -/
def State.bootInProgress (s : State) : Bool :=
  match s.startUp.state with
  | .pending | .pointer | .image => true
  | .none | .ended => false

/-- R172: the ports are closed while either reset line is low. -/
def State.resetHeld (s : State) : Bool :=
  s.pins.pwrupLow || s.pins.rstLow

/-- R89: whether a group's source is CLOSED. -/
def State.sourceClosed (s : State) (g : GroupId) : Bool :=
  decide (s.timing.sources[s.groups[g].source].phase = .closed)

/-- R58: whether a group is ARMED. -/
def GroupState.isArmed : GroupState → Bool
  | .armed _ _ => true
  | .opened => false
  | .blocked => false

/-- R57: whether a window is a member of a group. -/
def Window.memberOf (w : Window) (g : GroupId) : Bool :=
  decide (w.group = g)

/-! ## Event records -/

/-- R147: append a record in the event that makes it. -/
def State.record (s : State) (r : EventRecord) : State :=
  s.withEvents (s.events.append r)

/-- Append a record where the rule makes one. -/
def State.recordAll (s : State) (r : Option EventRecord) : State :=
  match r with
  | none => s
  | some x => s.record x

/-! ## Arming (R60) -/

/-- R60: take an arming request for a group; `asker` is the master of a trigger write, absent for PUBLISH. -/
def State.arm (s : State) (g : GroupId) (asker : Option MasterId) : State :=
  match s.groups[g].state with
  | .opened => s.setGroup g { s.groups[g] with state := .armed s.groups[g].lag (s.sourceClosed g) }
  | .armed _ _ => s
  | .blocked => s.record (.armRefused g asker)

/-! ## Responses (R95) and what an answer sets in motion -/

/-- R95: the data of a response: the memory data of a read answered OKAY, zeros for any other answer to a read, none for a
write. -/
def responseData (r : Request) (st : Status) (data : List Beat) : List Beat :=
  if r.kind.isWrite then []
  else match st with
    | .okay => data
    | .retry | .error => List.replicate r.beats 0

/-- R95: give a response. -/
def State.respond (s : State) (r : Request) (st : Status) (data : List Beat) : State :=
  s.withPort { s.port with
    responses := s.port.responses ++ [{ master := r.master, tag := r.tag, status := st, data := responseData r st data }] }

/-- R121: whether an entry is the one an UNLOCK_WRITE has claimed. -/
def Lock.claimedBy (l : Lock) (r : Request) : Bool :=
  decide (l.master = r.master) && decide (l.line = lineOfAddress r.address) && decide (l.claim = some r.tag)

/-- R122: what an answer does to the entry that a claiming UNLOCK_WRITE claimed: RETRY lifts the claim, OKAY and ERROR free
it. -/
def Lock.afterAnswer (l : Lock) (st : Status) : Option Lock :=
  match st with
  | .retry => some { l with claim := none }
  | .okay => none
  | .error => none

/-- R122: the answer to an UNLOCK_WRITE settles the entry it claimed, if that entry is still held. -/
def State.settleLock (s : State) (r : Request) (st : Status) : State :=
  if r.kind = .unlockWrite then
    s.withLocks (mapTable (fun _ e => match e with
      | none => none
      | some l => if l.claimedBy r then l.afterAnswer st else some l) s.locks)
  else s

/-- R104, R122: an answer that routing gives at acceptance; it settles the entry that an UNLOCK_WRITE has just claimed. -/
def State.answerNow (s : State) (r : Request) (st : Status) : State :=
  (s.respond r st []).settleLock r st

/-- R34: a counted read leaves its bank's live-read count. -/
def State.uncount (s : State) (t : Transfer) : State :=
  match t.window, t.countedBank with
  | some w, some b => s.setWindow w (s.windows[w].withLiveReads b (s.windows[w].liveReads b - 1))
  | _, _ => s

/-- R62: a trigger write answered OKAY makes its arming request. -/
def State.armByAnswer (s : State) (t : Transfer) (st : Status) : State :=
  match t.triggerMatch, st with
  | some g, .okay => s.arm g (some t.request.master)
  | _, _ => s

/-- R97, R98, R110: give the answer of the transfer in a slot and free the slot, in one event with what the answer sets in
motion (R34, R62, R122). -/
def State.answer (s : State) (i : Fin 8) (st : Status) (data : List Beat) : State :=
  match s.port.slots[i] with
  | none => s
  | some t =>
    ((((s.setSlot i none).respond t.request st data).uncount t).settleLock t.request st).armByAnswer t st

/-! ## Command results and the write-refused flag -/

/-- R162: a refused write. -/
def State.refuseWrite (s : State) : State :=
  s.withLink s.link.refuse

end Sys2Proof.Machine
end

