-- ==== Sys2Proof/Machine/Waits.lean ====
section
/-! DEFINITION. Waits of upstream transfers: exclusion against copies (R49, R50), the drain (R35), the demand queue (R37, R38),
issue order (R106), and the test of every transfer not yet issued that follows an event (R51, R53). -/

namespace Sys2Proof.Machine

/-- The waits of R107. -/
inductive Wait where
  /-- the line is in the carry set, behind a demand entry (R37) -/
  | demandLine
  /-- a copy in flight on the line (R50) -/
  | copyInFlight
  /-- the shadow bank's live-read count is nonzero (R35) -/
  | drain
  /-- the demand queue is full of other lines (R38) -/
  | demandRoom
  /-- an older transfer on the same target line is not yet issued (R106) -/
  | issueOrder
  deriving DecidableEq, Repr

/-! ## Copies and writes in flight (R49) -/

/-- Whether a copy in flight, owned or disowned, has a physical line as its source or its destination. -/
def State.copyOn (s : State) (line : Address) : Bool :=
  (places 2).any fun c => match s.carry.copiers[c] with
    | .idle => false
    | .busy k => decide (k.source = line) || decide (k.destination = line)

/-- The physical address a memory request of a transfer has or is aimed at. -/
def MemoryResult.address? : MemoryResult → Option Address
  | .absent => none
  | .presented _ a => some a
  | .outstanding a => some a
  | .answered a _ => some a

/-- The physical lines of the memory requests that an issued transfer has made or is aimed at (R49, R106). -/
def Transfer.issuedLines (t : Transfer) : List Address :=
  (t.first.address?.toList ++ t.shadow.address?.toList).map lineOfAddress

/-- R49: an upstream write is in flight from the issue of its first memory write until its last result, which frees its
slot. -/
def State.writeInFlightOn (s : State) (line : Address) : Bool :=
  (places 8).any fun i => match s.port.slots[i] with
    | none => false
    | some t => t.request.kind.isWrite && decide (t.phase = .issued) && t.issuedLines.contains line

/-! ## Target lines (R106) -/

/-- The physical lines a write would reach if it were issued now (R103, R106). -/
def State.writeTargets (s : State) (t : Transfer) : List Address :=
  match t.window with
  | none => [lineOfAddress t.request.address]
  | some w =>
    let r := s.windows[w]
    match t.route with
    | .passThrough => [lineOfAddress t.request.address]
    | .liveBank => [lineOfAddress (r.copyAddress r.live t.request.address)]
    | .shadowBank => [lineOfAddress (r.copyAddress r.shadow t.request.address)]
    | .bothBanks => [lineOfAddress (r.copyAddress r.live t.request.address),
        lineOfAddress (r.copyAddress r.shadow t.request.address)]

/-- Whether a transfer's second write stands presented and not issued. -/
def Transfer.shadowPresented (t : Transfer) : Bool :=
  match t.shadow with
  | .presented _ _ => true
  | .absent | .outstanding _ | .answered _ _ => false

/-- R106: the target lines with which a transfer holds a place in the issue order. An issued transfer holds none, but for a
BOTH transfer whose shadow write is not yet issued (log 20). -/
def State.targetLines (s : State) (t : Transfer) : List Address :=
  match t.phase with
  | .issued => if t.shadowPresented then t.issuedLines else []
  | .waiting | .ready =>
    match t.readAddress with
    | some a => [lineOfAddress a]
    | none => s.writeTargets t

/-- R106: the exception: a read counted in a bank that has become its window's shadow bank. -/
def State.drainsAsRead (s : State) (t : Transfer) : Bool :=
  match t.window, t.countedBank with
  | some w, some b => decide (s.windows[w].shadow = b)
  | _, _ => false

/-- R106: whether an older transfer holds a younger one. -/
def State.heldBehind (s : State) (older younger : Transfer) : Bool :=
  decide (older.acceptance < younger.acceptance)
    && (s.targetLines older).any (fun l => (s.targetLines younger).contains l)
    && !(s.drainsAsRead younger && older.request.kind.isWrite)

/-- R106: whether some older transfer of the table holds this one. -/
def State.orderHeld (s : State) (t : Transfer) : Bool :=
  (places 8).any fun i => match s.port.slots[i] with
    | none => false
    | some o => s.heldBehind o t

/-! ## The demand queue (R37) -/

/-- Whether an entry names this line. -/
def State.hasEntry (s : State) (w : WindowId) (line : Nat) : Bool :=
  s.carry.demand.contains { window := w, line := line }

/-- R39: the entry of one line leaves the queue; the entries behind close up. -/
def State.dropEntry (s : State) (w : WindowId) (line : Nat) : State :=
  s.withDemand (s.carry.demand.filter fun d => decide (d ≠ { window := w, line := line }))

/-- Whether the line of a transfer is in its window's carry set. -/
def State.stale (s : State) (t : Transfer) : Bool :=
  match t.window with
  | none => false
  | some w => s.windows[w].carry.contains (s.windows[w].lineIndex t.request.address)

/-- Whether a copy in flight touches a line the write would reach (R50; log 19). -/
def State.copyMeets (s : State) (t : Transfer) : Bool :=
  (s.writeTargets t).any s.copyOn

/-- R37: the line whose demand entry a producer write needs: its line is in the carry set, no copy of it is in flight, and the
write is not a whole-line write. -/
def State.demandNeed (s : State) (t : Transfer) : Option DemandEntry :=
  match t.route, t.window with
  | .shadowBank, some w =>
    if t.request.kind.isWrite && s.stale t && !s.copyMeets t && !t.request.wholeLine then
      some { window := w, line := s.windows[w].lineIndex t.request.address }
    else none
  | _, _ => none

/-- R38: whether a write's need of an entry meets a queue full of other lines. -/
def State.demandFull (s : State) (t : Transfer) : Bool :=
  match s.demandNeed t with
  | none => false
  | some d => !s.carry.demand.contains d && decide (Config.demandCapacity ≤ s.carry.demand.length)

/-- R37: a needed entry is made at the tail, joined where the queue holds it, or not made where the queue is full. -/
def State.makeEntry (s : State) (t : Transfer) : State :=
  match s.demandNeed t with
  | none => s
  | some d =>
    if s.carry.demand.contains d || decide (Config.demandCapacity ≤ s.carry.demand.length) then s
    else s.withDemand (s.carry.demand ++ [d])

/-! ## Waits (R107) -/

/-- Whether the live-read count of a window's shadow bank is nonzero (R35). -/
def State.draining (s : State) (w : WindowId) : Bool :=
  decide (s.windows[w].liveReads s.windows[w].shadow ≠ 0)

/-- The waits of the window unit (R13, R16, R18, R10, R50). Reads have none. -/
def State.windowWaits (s : State) (t : Transfer) : List Wait :=
  if t.request.kind.isWrite then
    (if s.copyMeets t then [Wait.copyInFlight] else [])
    ++ (match s.demandNeed t with
        | none => []
        | some d => if s.carry.demand.contains d then [Wait.demandLine] else [Wait.demandRoom])
    ++ (match t.route, t.window with
        | .shadowBank, some w => if s.draining w then [Wait.drain] else []
        | .bothBanks, some w => if !s.stale t && s.draining w then [Wait.drain] else []
        | _, _ => [])
  else []

/-- Every wait of a transfer (R107). -/
def State.waits (s : State) (t : Transfer) : List Wait :=
  s.windowWaits t ++ (if s.orderHeld t then [Wait.issueOrder] else [])

/-! ## The test after an event (R51, R53; log 8) -/

/-- Put a slot among others, older acceptance numbers first. -/
def State.insertByAge (s : State) (i : Fin 8) : List (Fin 8) → List (Fin 8)
  | [] => [i]
  | j :: js =>
    match s.port.slots[i], s.port.slots[j] with
    | some a, some b => if a.acceptance < b.acceptance then i :: j :: js else j :: s.insertByAge i js
    | _, _ => j :: s.insertByAge i js

/-- The occupied slots, oldest acceptance first (R97). -/
def State.slotsByAge (s : State) : List (Fin 8) :=
  (placesWhere Option.isSome s.port.slots).foldr s.insertByAge []

/-- Whether a transfer is not yet issued (R98). -/
def Transfer.unissued (t : Transfer) : Bool :=
  decide (t.phase ≠ .issued)

/-- R37, R38: each write not yet issued makes the demand entry its line needs, oldest write first. -/
def State.makeEntries (s : State) : State :=
  s.slotsByAge.foldl (fun s i => match s.port.slots[i] with
    | none => s
    | some t => if t.unissued then s.makeEntry t else s) s

/-- R98, R107: a transfer not yet issued is READY when no wait holds and WAITING otherwise; its hold count starts at its
first wait with the hold limit of that moment, and resumes from the value it held; a count that had reached the limit is then
due at once (log 4). -/
def State.testedTransfer (s : State) (t : Transfer) : Transfer :=
  if t.unissued then
    if (s.waits t).isEmpty then { t with phase := .ready }
    else { t with phase := .waiting, hold := some (t.hold.getD { count := 0, limit := s.link.holdLimit.toNat }) }
  else t

/-- Test every transfer not yet issued and set its phase. -/
def State.testPhases (s : State) : State :=
  s.withPort { s.port with slots := mapTable (fun _ e => e.map s.testedTransfer) s.port.slots }

/-- R51, R53, R106: the test of every transfer not yet issued, as it follows each event that can end or raise a wait. -/
def State.retest (s : State) : State :=
  s.makeEntries.testPhases

end Sys2Proof.Machine
end

