-- ==== Sys2Proof/Machine/SystemPortUnit.lean ====
section
/-! DEFINITION. The system port and the interlock unit: acceptance and its checks in order (R97 to R102), the place of an
address (R7), the interlock check (R118 to R123), routing (R10 to R20), and the hold and lock limits (R108, R125), with the
meanings of REQUEST_ACCEPTANCE, HOLD_LIMIT_EXPIRY and LOCK_LIMIT_EXPIRY. -/

namespace Sys2Proof.Machine

/-! ## Finding the window of an access (R7) -/

/-- The outcomes of R7. -/
inductive Place where
  | home (w : WindowId)
  | twin (w : WindowId)
  | miss
  deriving DecidableEq, Repr

/-- R7: only windows that are not DISABLED take part; of two, the window with the lowest number. -/
def State.place (s : State) (a : Address) : Place :=
  match (placesWhere (fun r => decide (r.state ≠ .disabled) && r.inRanges a) s.windows).head? with
  | none => .miss
  | some w => if s.windows[w].inHome a then .home w else .twin w

/-! ## The interlock check (R118 to R123) -/

/-- R117: the entry that covers the line of an address as presented. -/
def State.lockOn (s : State) (a : Address) : Option (Fin 4) :=
  (placesWhere (fun e => match e with
    | none => false
    | some l => decide (l.line = lineOfAddress a)) s.locks).head?

/-- R119: a free entry of the lock table; of several, the model's choice is the lowest-numbered one (log 24). -/
def State.freeLock (s : State) : Option (Fin 4) :=
  (placesWhere (fun e => decide (e = (none : Option Lock))) s.locks).head?

/-- What the interlock unit gives a transfer that reaches check 5. -/
inductive LockTest where
  | retry
  | orphan
  | routed
  | claims (entry : Fin 4) (lock : Lock)
  deriving DecidableEq, Repr

/-- R118, R119, R120, R121, R123, as "Tests of the interlock unit at a glance" gathers them. -/
def State.lockTest (s : State) (r : Request) : LockTest :=
  match s.lockOn r.address with
  | some j =>
    match s.locks[j] with
    | none => .routed
    | some l =>
      if l.master ≠ r.master then .retry
      else match r.kind with
        | .unlockWrite => if l.claim = none then .claims j l else .orphan
        | .read | .write | .lockedRead => .routed
  | none =>
    match r.kind with
    | .lockedRead => if s.freeLock = none then .retry else .routed
    | .unlockWrite => .orphan
    | .read | .write => .routed

/-- R119: a LOCKED_READ that routing keeps makes an entry, if no entry covers its line. -/
def State.takeLock (s : State) (r : Request) : State :=
  if r.kind = .lockedRead && s.lockOn r.address = none then
    match s.freeLock with
    | none => s
    | some j => s.setLock j (some
        { master := r.master
          line := lineOfAddress r.address
          limit := s.link.lockLimit.toNat
          age := 0
          claim := none })
  else s

/-! ## Routing (R10 to R20) -/

/-- How routing ends (R103). -/
inductive Routing where
  | answer (status : Status) (record : Option EventRecord)
  | keep (t : Transfer)
  deriving DecidableEq, Repr

/-- A transfer as it is kept, before its waits are tested (R96, R98). -/
def keptTransfer (r : Request) (number : Nat) (window : Option WindowId) (role : Option Role) (route : Route)
    (readAddress : Option Address) : Transfer :=
  { request := r
    acceptance := number
    window := window
    role := role
    route := route
    readAddress := readAddress
    countedBank := none
    triggerMatch := none
    phase := .ready
    hold := none
    first := .absent
    shadow := .absent }

/-- R6: a master's role in a window. -/
def State.roleIn (s : State) (w : WindowId) (m : MasterId) : Role :=
  if inProducers s.groups[s.windows[w].group].producers m then .producer else .consumer

/-- R61: the group whose trigger word a producer write to a window's home range touches: the window's own group, if its
trigger names the window. -/
def State.triggerMatch (s : State) (w : WindowId) (r : Request) : Option GroupId :=
  let g := s.windows[w].group
  match s.groups[g].trigger with
  | none => none
  | some x =>
    if x.window = w && r.touchesWord (s.windows[w].base + BitVec.ofNat 32 (8 * x.offset)) then some g else none

/-- R10: a miss passes through to its own address. -/
def routeMiss (r : Request) (number : Nat) : Routing :=
  .keep (keptTransfer r number none none .passThrough (if r.kind.isWrite then none else some r.address))

/-- R17, R18, R19: a transfer to the live bank, uncounted. -/
def State.routeLive (s : State) (r : Request) (number : Nat) (w : WindowId) : Routing :=
  .keep (keptTransfer r number (some w) (some (s.roleIn w r.master)) .liveBank
    (if r.kind.isWrite then none else some (s.windows[w].copyAddress s.windows[w].live r.address)))

/-- R11, R20: a consumer read of a SEEDING or ACTIVE window. -/
def State.routeConsumerRead (s : State) (r : Request) (number : Nat) (w : WindowId) : Routing :=
  if r.kind = .lockedRead && s.windows[w].policy = .error then .answer .error none
  else .keep { keptTransfer r number (some w) (some .consumer) .liveBank
      (some (s.windows[w].copyAddress s.windows[w].live r.address)) with
    countedBank := some s.windows[w].live }

/-- R12: a producer read of a SEEDING or ACTIVE window: the live bank if the line is in the carry set, else the shadow
bank. -/
def State.routeProducerRead (s : State) (r : Request) (number : Nat) (w : WindowId) : Routing :=
  if s.windows[w].carry.contains (s.windows[w].lineIndex r.address) then
    .keep (keptTransfer r number (some w) (some .producer) .liveBank
      (some (s.windows[w].copyAddress s.windows[w].live r.address)))
  else
    .keep (keptTransfer r number (some w) (some .producer) .shadowBank
      (some (s.windows[w].copyAddress s.windows[w].shadow r.address)))

/-- R14, R15, R16: a consumer write to a SEEDING or ACTIVE window, by foreign policy. -/
def State.routeConsumerWrite (s : State) (r : Request) (number : Nat) (w : WindowId) : Routing :=
  match s.windows[w].policy with
  | .error => .answer .error (some (.foreignWrite r.master r.address w))
  | .drop => .answer .okay (some (.foreignWrite r.master r.address w))
  | .both => .keep (keptTransfer r number (some w) (some .consumer) .bothBanks none)

/-- R13, R38, R61: a producer write to a SEEDING or ACTIVE window. -/
def State.routeProducerWrite (s : State) (r : Request) (number : Nat) (w : WindowId) : Routing :=
  let t := { keptTransfer r number (some w) (some .producer) .shadowBank none with
    triggerMatch := s.triggerMatch w r }
  if s.demandFull t then .answer .retry none else .keep t

/-- R11 to R16, R20: a transfer to a window that serves two banks. -/
def State.routeTwoBanks (s : State) (r : Request) (number : Nat) (w : WindowId) : Routing :=
  match s.roleIn w r.master, r.kind.isWrite with
  | .consumer, false => s.routeConsumerRead r number w
  | .consumer, true => s.routeConsumerWrite r number w
  | .producer, false => s.routeProducerRead r number w
  | .producer, true => s.routeProducerWrite r number w

/-- R10 to R19: routing by the state of the window. -/
def State.routeHome (s : State) (r : Request) (number : Nat) (w : WindowId) : Routing :=
  match s.windows[w].state with
  | .disabled => routeMiss r number
  | .seeding => s.routeTwoBanks r number w
  | .active => s.routeTwoBanks r number w
  | .homing => if r.kind.isWrite then .answer .retry none else s.routeLive r number w
  | .suspended => s.routeLive r number w
  | .faulted => if r.kind.isWrite then .answer .error none else s.routeLive r number w

/-! ## Acceptance (R97 to R104) -/

/-- R101: whether the (master, tag) pair is outstanding. -/
def State.outstanding (s : State) (r : Request) : Bool :=
  (places 8).any fun i => match s.port.slots[i] with
    | none => false
    | some t => decide (t.request.master = r.master) && decide (t.request.tag = r.tag)

/-- R11, R34: a counted read enters the live-read count of its bank. -/
def State.countRead (s : State) (t : Transfer) : State :=
  match t.window, t.countedBank with
  | some w, some b => s.setWindow w (s.windows[w].withLiveReads b (s.windows[w].liveReads b + 1))
  | _, _ => s

/-- R98, R103: the end of routing: the answer with its record, or the transfer in its slot with its count and its lock, tested
for waits. -/
def State.finishRouting (s : State) (i : Fin 8) (r : Request) (result : Routing) : State :=
  match result with
  | .answer st record => (s.recordAll record).answerNow r st
  | .keep t => (((s.setSlot i (some t)).countRead t).takeLock r).retest

/-- Check 6 of R99: routing by the place of the address. -/
def State.routing (s : State) (r : Request) (number : Nat) : Routing :=
  match s.place r.address with
  | .home w => s.routeHome r number w
  | .twin _ => routeMiss r number
  | .miss => routeMiss r number

/-- Checks 5 and 6 of R99: the interlock check, then routing. -/
def State.interlockAndRoute (s : State) (i : Fin 8) (r : Request) (number : Nat) : State :=
  match s.lockTest r with
  | .retry => s.respond r .retry []
  | .orphan => (s.record (.unlockOrphan r.master r.address)).respond r .error []
  | .routed => s.finishRouting i r (s.routing r number)
  | .claims j l =>
    (s.setLock j (some { l with claim := some r.tag })).finishRouting i r (s.routing r number)

/-- R99: the checks at acceptance in their order; the first that fails gives the answer. -/
def State.checkRequest (s : State) (i : Fin 8) (r : Request) (number : Nat) : State :=
  if s.bootInProgress then s.respond r .retry []
  else if s.outstanding r then s.respond r .error []
  else if !r.aligned then (s.record (.align r.master r.address)).respond r .error []
  else match s.place r.address with
    | .twin w => (s.record (.twinAccess r.master r.address w)).respond r .error []
    | .home _ => s.interlockAndRoute i r number
    | .miss => s.interlockAndRoute i r number

/-- R97: a free slot of the transaction table; of several, the model's choice is the lowest-numbered one (log 24). -/
def State.freeSlot (s : State) : Option (Fin 8) :=
  (placesWhere (fun e => decide (e = (none : Option Transfer))) s.port.slots).head?

/-- R97, R98: one request is accepted into a slot with the next acceptance number, checked and routed in the same event. -/
def State.accept (s : State) (i : Fin 8) (r : Request) : State :=
  (s.withPort { s.port with nextAcceptance := s.port.nextAcceptance + 1 }).checkRequest i r s.port.nextAcceptance

/-- R97, R113: the slot that the oldest offered request would take now, with the requests that stay offered. -/
def State.nextAccepted (s : State) : Option (Fin 8 × Request × List Request) :=
  if s.resetHeld then none
  else match s.port.offered, s.freeSlot with
    | r :: rest, some i => some (i, r, rest)
    | _, _ => none

/-- R97: requests that stand offered are accepted one at a time, at most `n` of them. -/
def State.acceptUpTo : Nat → State → State
  | 0, s => s
  | n + 1, s =>
    match s.nextAccepted with
    | none => s
    | some (i, r, rest) => State.acceptUpTo n ((s.withPort { s.port with offered := rest }).accept i r)

/-- R97, R113, R115: the requests that stand offered are accepted, oldest first, while a slot is free and no reset is held;
the rest stay offered. Every event that frees a slot or opens the port ends with this (log 7). -/
def State.acceptStanding (s : State) : State :=
  State.acceptUpTo s.port.offered.length s

/-- R97: a request is offered behind those that stand offered (log 7). -/
def State.offer (s : State) (r : Request) : State :=
  s.withPort { s.port with offered := s.port.offered ++ [r] }

/-- REQUEST_ACCEPTANCE (R97, R98): a request is offered, and what stands offered is accepted while a slot is free. -/
def execRequestAcceptance (r : Request) (s : State) : Host.Outcome State Fault Refusal :=
  .next (s.quiet.offer r).acceptStanding

/-! ## Limits (R108, R125) -/

/-- R108: whether a transfer is in WAITING with its hold count at its limit. A transfer whose last wait ended first (R109) and
that returns to WAITING with its count at the limit is due at once, before any further tick: the spec leaves this open, and
it is the model's choice (log 4). -/
def Transfer.holdExpired (t : Transfer) : Bool :=
  match t.phase, t.hold with
  | .waiting, some h => decide (h.limit ≤ h.count)
  | _, _ => false

/-- HOLD_LIMIT_EXPIRY (R108); a return to WAITING with the count at the limit makes it due at once (log 4). -/
def execHoldLimitExpiry (i : Fin 8) (s : State) : Host.Outcome State Fault Refusal :=
  let q := s.quiet
  match q.port.slots[i] with
  | none => .next q
  | some t =>
    if t.holdExpired then
      .next (((q.record (.holdExpired t.request.master t.request.address t.window)).answer i .retry []).retest).acceptStanding
    else .next q

/-- LOCK_LIMIT_EXPIRY (R125). -/
def execLockLimitExpiry (j : Fin 4) (s : State) : Host.Outcome State Fault Refusal :=
  let q := s.quiet
  match q.locks[j] with
  | none => .next q
  | some l =>
    if l.limit ≤ l.age then .next ((q.setLock j none).record (.lockBroken l.master l.line)) else .next q

end Sys2Proof.Machine
end

