-- ==== Sys2Proof/Machine/WindowUnit.lean ====
section
/-! DEFINITION. The window unit and the parts of the publication controller it works with: settling pending work (R22), the
end of SEEDING and HOMING (R25), faults (R28), blocking (R75, R76), the end of a rollback (R79), the flip of a window (R29),
and the commands ENABLE, DISABLE and SUSPEND (R23 to R27). -/

namespace Sys2Proof.Machine

/-! ## Rollback mark, blocking -/

/-- R79: whether every member of a group has an empty carry set. -/
def State.membersClean (s : State) (g : GroupId) : Bool :=
  (places 16).all fun w => !s.windows[w].memberOf g || s.windows[w].carry.isEmpty

/-- R79: the rollback-pending mark of one group is tested. -/
def State.testRollback (s : State) (g : GroupId) : State :=
  if s.groups[g].rollbackPending && s.membersClean g then
    (s.setGroup g { s.groups[g] with rollbackPending := false }).record (.rollbackDone g)
  else s

/-- R79: the mark of every group is tested (log 23). -/
def State.testRollbacks (s : State) : State :=
  (places 4).foldl State.testRollback s

/-- R75: a member of the group enters FAULTED. -/
def State.blockGroup (s : State) (g : GroupId) : State :=
  match s.groups[g].state with
  | .opened => s.setGroup g { s.groups[g] with state := .blocked }
  | .armed _ _ => (s.setGroup g { s.groups[g] with state := .blocked }).record (.armDropped g)
  | .blocked => s

/-- R58: whether some member of a group is FAULTED. -/
def State.memberFaulted (s : State) (g : GroupId) : Bool :=
  (places 16).any fun w => s.windows[w].memberOf g && decide (s.windows[w].state = .faulted)

/-- R76: a BLOCKED group becomes OPEN when no member is FAULTED any more. -/
def State.unblockGroup (s : State) (g : GroupId) : State :=
  match s.groups[g].state with
  | .blocked => if s.memberFaulted g then s else s.setGroup g { s.groups[g] with state := .opened }
  | .opened => s
  | .armed _ _ => s

/-! ## Settling pending work (R22, R186) -/

/-- R22: whether a transfer is a write, routed and not yet issued, to an address that satisfies a test. -/
def Transfer.pendingWriteIn (t : Transfer) (p : Address → Bool) : Bool :=
  t.unissued && t.request.kind.isWrite && p t.request.address

/-- R22: answer one slot's transfer if it is such a write. -/
def State.settleSlot (p : Address → Bool) (st : Status) (s : State) (i : Fin 8) : State :=
  match s.port.slots[i] with
  | none => s
  | some t => if t.pendingWriteIn p then s.answer i st [] else s

/-- R22, R186: every write routed and not yet issued to an address that satisfies a test is answered (log 10). -/
def State.settleWrites (s : State) (p : Address → Bool) (st : Status) : State :=
  (places 8).foldl (State.settleSlot p st) s

/-- R22, R48: one copier's copy of a window is disowned; a copy whose request is not issued is withdrawn and its copier is
IDLE at once. -/
def Copier.disown (w : WindowId) : Copier → Copier
  | .idle => .idle
  | .busy k =>
    if k.window = w && k.owned then
      if k.granted then .busy { k with owned := false } else .idle
    else .busy k

/-- R22: the demand entries of a window are removed and its copies in flight are disowned. -/
def State.dropCarryWork (s : State) (w : WindowId) : State :=
  s.withCarry { s.carry with
    demand := s.carry.demand.filter fun d => decide (d.window ≠ w)
    copiers := mapTable (fun _ c => c.disown w) s.carry.copiers }

/-! ## The end of SEEDING and HOMING (R25) -/

/-- R25: what an empty carry set ends. -/
def State.endCarry (s : State) (w : WindowId) : State :=
  if s.windows[w].carry.isEmpty then
    match s.windows[w].state with
    | .seeding => (s.setWindow w { s.windows[w] with state := .active }).record (.seedDone w)
    | .homing => (s.setWindow w { s.windows[w] with state := .disabled, live := .bank0 }).record (.homeDone w)
    | .disabled | .active | .suspended | .faulted => s
  else s

/-! ## Faults (R28) -/

/-- R28: a failed owned copy puts its window in FAULTED, with the address of the line its request addressed. -/
def State.faultWindow (s : State) (w : WindowId) (a : Address) : State :=
  let r := s.windows[w]
  let s1 := s.setWindow w { r with dirty := [], carry := [], state := .faulted, faultAddress := some a }
  let s2 := (s1.settleWrites r.inRanges .error).dropCarryWork w
  ((s2.record (.windowFault w a)).blockGroup r.group).testRollbacks

/-! ## Flip of a window (R29) -/

/-- R29: the window record after a flip at a boundary. -/
def Window.flipped (r : Window) (epoch : Epoch) : Window :=
  { r with live := r.live.other, carry := r.dirty, dirty := [], publishedEpoch := some epoch, state := .active }

/-! ## Rollback of a window (R54) -/

/-- R54: the window record after a rollback of its group. -/
def Window.rolledBack (r : Window) : Window :=
  if r.state.servesTwo then { r with carry := LineSet.union r.dirty r.carry, dirty := [] } else r

/-! ## ENABLE (R23, R24) -/

/-- R23 test 7, failing: a range of w overlaps a range of another window that is not DISABLED. -/
def State.overlapsOther (s : State) (w : WindowId) : Bool :=
  (places 16).any fun v =>
    decide (v ≠ w) && decide (s.windows[v].state ≠ .disabled) && s.windows[w].overlaps s.windows[v]

/-- R23: tests 3 to 7 of ENABLE, in order. -/
def State.enableTest (s : State) (w : WindowId) : CommandResult :=
  let r := s.windows[w]
  if r.state = .seeding || r.state = .active || r.state = .homing then .refusedState
  else if !r.sizeCodeValid then .refusedArgument
  else if !r.basesAligned then .refusedArgument
  else if r.selfOverlap then .refusedOverlap
  else if s.overlapsOther w then .refusedOverlap
  else .accepted

/-- R24: an ENABLE that passes its tests puts the window in SEEDING; R22 settles the writes, R76 the group, and R97 fills
the slots that the answers free. -/
def State.enableTaken (s : State) (w : WindowId) : State :=
  let r := s.windows[w]
  let s1 := s.setWindow w { r with state := .seeding, dirty := [], carry := r.everyLine, faultAddress := none }
  ((s1.settleWrites r.inRanges .retry).unblockGroup r.group).retest.acceptStanding

/-- R23, R24: ENABLE of a window, without the boot test. -/
def State.enableWindow (s : State) (w : WindowId) : CommandResult × State :=
  match s.enableTest w with
  | .accepted => (.accepted, s.enableTaken w)
  | refused => (refused, s)

/-! ## DISABLE (R26) and SUSPEND (R27) -/

/-- R26, R27, R22: a window changes to a state by DISABLE or SUSPEND with a new record; its pending work is settled, and R97
fills the slots that the answers free. -/
def State.changeState (s : State) (w : WindowId) (r' : Window) : State :=
  let r := s.windows[w]
  let s1 := s.setWindow w r'
  ((((s1.settleWrites r.inRanges .retry).dropCarryWork w).unblockGroup r.group).testRollbacks).retest.acceptStanding

/-- R26: the record of a window that DISABLE turns off or sends homing, by its live bank. -/
def Window.disabledBy (r : Window) : Window :=
  match r.live with
  | .bank0 => { r with state := .disabled, dirty := [], carry := [], faultAddress := none }
  | .bank1 => { r with state := .homing, dirty := [], carry := r.everyLine, faultAddress := none }

/-- R26: DISABLE of a window. -/
def State.disableWindow (s : State) (w : WindowId) : CommandResult × State :=
  match s.windows[w].state with
  | .disabled => (.accepted, s)
  | .homing => (.refusedState, s)
  | .seeding | .active | .suspended | .faulted => (.accepted, s.changeState w s.windows[w].disabledBy)

/-- R27: the record of a window that SUSPEND stops. -/
def Window.suspendedBy (r : Window) : Window :=
  { r with state := .suspended, dirty := [], carry := [], faultAddress := none }

/-- R27: SUSPEND of a window. -/
def State.suspendWindow (s : State) (w : WindowId) : CommandResult × State :=
  match s.windows[w].state with
  | .suspended => (.accepted, s)
  | .disabled | .homing => (.refusedState, s)
  | .seeding | .active | .faulted => (.accepted, s.changeState w s.windows[w].suspendedBy)

end Sys2Proof.Machine
end

