-- ==== Sys2Proof/Machine/Publication.lean ====
section
/-! DEFINITION. The publication controller: the flip gate (R69, R70), the flip (R71), boundaries at a group (R67, R72), PUBLISH
(R63), ROLLBACK (R78) and the hold flag (R65). -/

namespace Sys2Proof.Machine

/-! ## The flip gate (R69) -/

/-- R69 condition 3, failing: a master of the producer set holds a lock on a line of the window's home range. -/
def State.producerLocked (s : State) (producers : BitVec 16) (r : Window) : Bool :=
  (places 4).any fun j => match s.locks[j] with
    | none => false
    | some l => inProducers producers l.master && r.inHome l.line

/-- R57: whether a window takes part in the flip of a group. -/
def Window.partOf (r : Window) (g : GroupId) : Bool :=
  r.memberOf g && r.state.takesPart

/-- R69: the three conditions on one taking-part member. -/
def State.memberReady (s : State) (g : GroupId) (r : Window) : Bool :=
  decide (r.state = .active) && r.carry.isEmpty && !s.producerLocked s.groups[g].producers r

/-- R69, R73: the gate passes when every taking-part member is ready; with none it passes. -/
def State.gatePasses (s : State) (g : GroupId) : Bool :=
  (places 16).all fun w => !s.windows[w].partOf g || s.memberReady g s.windows[w]

/-! ## The flip (R71) -/

/-- R29, R71: every taking-part member flips in one event. -/
def State.flipMembers (s : State) (g : GroupId) (epoch : Epoch) : State :=
  s.withWindows (mapTable (fun _ r => if r.partOf g then r.flipped epoch else r) s.windows)

/-- R71: the group flips at a boundary. -/
def State.flipGroup (s : State) (g : GroupId) (epoch : Epoch) : State :=
  let s1 := s.flipMembers g epoch
  (s1.setGroup g { s1.groups[g] with state := .opened, lastEpoch := some epoch }).record (.flip g epoch)

/-! ## A boundary at a group (R67) -/

/-- R67: a group takes a boundary of its source; R72 on a gate failure. -/
def State.takeBoundary (s : State) (g : GroupId) (epoch : Epoch) : State :=
  match s.groups[g].state with
  | .opened => s
  | .blocked => s
  | .armed countdown late =>
    if s.groups[g].hold || late then s.setGroup g { s.groups[g] with state := .armed countdown false }
    else match countdown with
      | .two => s.setGroup g { s.groups[g] with state := .armed .one false }
      | .one =>
        if s.gatePasses g then s.flipGroup g epoch
        else (s.setGroup g { s.groups[g] with state := .armed .one false }).record (.missed g epoch)

/-- R67: a boundary of a source reaches one group if the group names that source. -/
def State.boundaryAtGroup (e : SourceId) (epoch : Epoch) (s : State) (g : GroupId) : State :=
  if s.groups[g].source = e then s.takeBoundary g epoch else s

/-- R67: a boundary reaches every group whose source field names the source, G0 first (log 9). -/
def State.boundaryAtGroups (s : State) (e : SourceId) (epoch : Epoch) : State :=
  (places 4).foldl (State.boundaryAtGroup e epoch) s

/-! ## Commands of the publication controller -/

/-- R63: PUBLISH of a group, without the boot test. -/
def State.publishGroup (s : State) (g : GroupId) : CommandResult × State :=
  match s.groups[g].state with
  | .blocked => (.refusedState, s.arm g none)
  | .opened => (.accepted, s.arm g none)
  | .armed _ _ => (.accepted, s.arm g none)

/-- R78 step 1, R54: every member in SEEDING or ACTIVE gives its dirty set to its carry set. -/
def State.rollBackMembers (s : State) (g : GroupId) : State :=
  s.withWindows (mapTable (fun _ r => if r.memberOf g then r.rolledBack else r) s.windows)

/-- R78 step 2: an ARMED group becomes OPEN with ARM_DROPPED. -/
def State.dropArming (s : State) (g : GroupId) : State :=
  match s.groups[g].state with
  | .armed _ _ => (s.setGroup g { s.groups[g] with state := .opened }).record (.armDropped g)
  | .opened => s
  | .blocked => s

/-- R78: ROLLBACK of a group, its four steps as one event. -/
def State.rollbackGroup (s : State) (g : GroupId) : State :=
  let s1 := (s.rollBackMembers g).dropArming g
  ((s1.setGroup g { s1.groups[g] with rollbackPending := true }).testRollbacks).retest

/-! ## Hold (R65) -/

/-- R65: the hold flag is written; clearing it in an ARMED group with a CLOSED source sets the late mark. -/
def State.writeHold (s : State) (g : GroupId) (hold : Bool) : State :=
  let r := s.groups[g]
  if hold then s.setGroup g { r with hold := true }
  else if r.hold then
    match r.state with
    | .armed countdown late =>
      s.setGroup g { r with hold := false, state := .armed countdown (late || s.sourceClosed g) }
    | .opened => s.setGroup g { r with hold := false }
    | .blocked => s.setGroup g { r with hold := false }
  else s

end Sys2Proof.Machine
end

