-- ==== Sys2Proof/Machine/EpochTiming.lean ====
section
/-! DEFINITION. The epoch timing unit: boundaries (R86), the close timer (R87), samples of SYNC0 and SYNC1 (R84), with the
meanings of CLOSE_TIMER_EXPIRY and SYNC_RISING_EDGE, and the tick of REFCLK that every timer counts. -/

namespace Sys2Proof.Machine

/-- R87: the close timer after a boundary with close delay d. -/
def closeTimerFrom (delay : BitVec 24) : CloseTimer :=
  if delay = 0 then .stopped else .running delay

/-- R86 steps 1 to 3: a source's record after a boundary. -/
def Source.atBoundary (r : Source) : Source :=
  { r with counter := r.counter + 1, phase := .opened, closeTimer := closeTimerFrom r.closeDelay }

/-- R86: a boundary of a source, handed to every group that names it. -/
def State.boundaryOf (s : State) (e : SourceId) : State :=
  let r := s.timing.sources[e].atBoundary
  ((s.setSource e r).boundaryAtGroups e r.counter).retest

/-- R84: E0 takes the edges of SYNC0, E1 those of SYNC1. -/
def syncSource (input : Fin 2) : SourceId :=
  input.castSucc

/-- R84: the samples of both inputs at a rising edge of REFCLK: each becomes the previous sample of its input, and a high one
after a low one is a rising edge. -/
def EpochTiming.sampled (t : EpochTiming) (levels : Vector Bool 2) : EpochTiming :=
  { t with
    lastSample := mapTable (fun i _ => some levels[i]) t.lastSample
    edges := mapTable (fun i found => found || levels[i] && decide (t.lastSample[i] = some false)) t.edges }

/-- R84: an input's line takes a level, which the next rising edge of REFCLK samples. -/
def State.syncLevel (s : State) (input : Fin 2) (level : Bool) : State :=
  s.withPins { s.pins with syncHigh := s.pins.syncHigh.set input level }

/-- The edge that a sample of an input found is taken, or dropped. -/
def State.clearEdge (s : State) (input : Fin 2) : State :=
  s.withTiming { s.timing with edges := s.timing.edges.set input false }

/-- SYNC_RISING_EDGE (R84, R93): the rising edge that a sample of an input found is a boundary of its source, and the input's
line has the level given from then on (log 6). With no edge found, or while PWRUP_N or RST_N is low, there is no boundary. -/
def execSyncRisingEdge (input : Fin 2) (level : Bool) (s : State) : Host.Outcome State Fault Refusal :=
  let q := (s.quiet.syncLevel input level).clearEdge input
  if s.timing.edges[input] && !s.resetHeld then .next (q.boundaryOf (syncSource input)) else .next q

/-- R87: the expiry of a close timer makes the phase CLOSED. -/
def Source.expire (r : Source) : Source :=
  { r with phase := .closed, closeTimer := .stopped }

/-- CLOSE_TIMER_EXPIRY (R87): taken together with the last tick of the timer (log 4). -/
def execCloseTimerExpiry (e : SourceId) (s : State) : Host.Outcome State Fault Refusal :=
  let q := s.quiet
  if q.timing.sources[e].closeTimer = .expiring then .next (q.setSource e q.timing.sources[e].expire)
  else .next q

/-! ## The tick of REFCLK (log 3, log 4, log 6) -/

/-- R87: one tick of a close timer. -/
def CloseTimer.tick : CloseTimer → CloseTimer
  | .stopped => .stopped
  | .running n => if n.toNat ≤ 1 then .expiring else .running (n - 1)
  | .expiring => .expiring

/-- R107: the hold count of a transfer in WAITING increases by one, up to its limit. -/
def Transfer.tick (t : Transfer) : Transfer :=
  match t.phase, t.hold with
  | .waiting, some h => { t with hold := some { h with count := min (h.count + 1) h.limit } }
  | _, _ => t

/-- R125: the age of a held entry increases by one, up to its limit. -/
def Lock.tick (l : Lock) : Lock :=
  { l with age := min (l.age + 1) l.limit }

/-- R133, R140: the timer of a PENDING or FENCED slot increases by one, up to its limit. -/
def MemSlot.tick : MemSlot → MemSlot
  | .free => .free
  | .pending request owner timer limit => .pending request owner (min (timer + 1) limit) limit
  | .fenced timer limit => .fenced (min (timer + 1) limit) limit

/-- R140, R143: fence timers count also while RST_N is low, when no slot is PENDING. -/
def State.tickMemory (s : State) : State :=
  s.withMem { s.mem with slots := mapTable (fun _ m => m.tick) s.mem.slots }

/-- The timers of the other blocks, which count while neither reset line is low, and the samples of the SYNC inputs at
their present levels (R84). -/
def State.tickOthers (s : State) : State :=
  ((s.withTiming ({ s.timing with
      sources := mapTable (fun _ r => { r with closeTimer := r.closeTimer.tick }) s.timing.sources }.sampled
        s.pins.syncHigh)).withPort { s.port with
          slots := mapTable (fun _ e => e.map Transfer.tick) s.port.slots }).withLocks
    (mapTable (fun _ e => e.map Lock.tick) s.locks)

/-- One tick of REFCLK. R172, R84: while PWRUP_N is low no timer counts; while RST_N is low only fence timers do; while either
is low nothing is sampled. -/
def State.tick (s : State) : State :=
  let q := s.quiet
  if q.pins.pwrupLow then q
  else if q.pins.rstLow then q.tickMemory
  else q.tickMemory.tickOthers

end Sys2Proof.Machine
end

