-- ==== Sys2Proof/Machine/CopyEngine.lean ====
section
/-! DEFINITION. The carry engine: candidates (R41), the order of takes (R42), the take (R43), and the end of a copy by success
(R46), failure (R47) or after disowning (R48), with the meaning of COPIER_TAKE. -/

namespace Sys2Proof.Machine

/-! ## Candidates (R41) -/

/-- R41 conditions 2 to 4 for a line of a window. -/
def State.lineFree (s : State) (w : WindowId) (line : Nat) : Bool :=
  let r := s.windows[w]
  let live := r.lineAddress r.live line
  let shadow := r.lineAddress r.shadow line
  !s.draining w && !s.copyOn live && !s.copyOn shadow && !s.writeInFlightOn live && !s.writeInFlightOn shadow

/-- R41: a line that a copier may take. -/
def State.candidate (s : State) (w : WindowId) (line : Nat) : Bool :=
  s.windows[w].state.copies && s.windows[w].carry.contains line && s.lineFree w line

/-- R42, R74: whether a window's carry lines are urgent: its group is ARMED and its group's source is CLOSED. -/
def State.urgent (s : State) (w : WindowId) : Bool :=
  s.groups[s.windows[w].group].state.isArmed && s.sourceClosed s.windows[w].group

/-- R42 step 1: the oldest demand entry whose line is a candidate. -/
def State.demandCandidate (s : State) : Option (WindowId × Nat) :=
  (s.carry.demand.find? fun d => s.candidate d.window d.line).map fun d => (d.window, d.line)

/-- R42: the lowest candidate line of one window. -/
def State.windowCandidate (s : State) (w : WindowId) : Option (WindowId × Nat) :=
  (s.windows[w].carry.find? fun line => s.candidate w line).map fun line => (w, line)

/-- R42 steps 2 and 3: the first candidate, by window and then by line, of the windows that are urgent or not. -/
def State.backgroundCandidate (s : State) (isUrgent : Bool) : Option (WindowId × Nat) :=
  ((places 16).filter fun w => s.urgent w == isUrgent).findSome? s.windowCandidate

/-- R42: the first candidate and where it was taken from. -/
def State.firstCandidate (s : State) : Option (WindowId × Nat × CopyOrigin) :=
  match s.demandCandidate with
  | some (w, line) => some (w, line, .demand)
  | none =>
    match s.backgroundCandidate true with
    | some (w, line) => some (w, line, .background)
    | none => (s.backgroundCandidate false).map fun (w, line) => (w, line, .background)

/-- R42: C0 before C1. -/
def State.idleCopier (s : State) : Option (Fin 2) :=
  (placesWhere (fun c => decide (c = Copier.idle)) s.carry.copiers).head?

/-! ## The take (R43) -/

/-- R40, R43: the copy record at the take. -/
def State.copyOf (s : State) (w : WindowId) (line : Nat) (origin : CopyOrigin) : CopyRecord :=
  let r := s.windows[w]
  { window := w
    line := line
    source := r.lineAddress r.live line
    destination := r.lineAddress r.shadow line
    origin := origin
    owned := true
    phase := .reading
    buffer := []
    granted := false
    taken := s.carry.nextTake }

/-- R43: a copier takes a line; R51: a ready write of that line returns to waiting. -/
def State.takeLine (s : State) (c : Fin 2) (w : WindowId) (line : Nat) (origin : CopyOrigin) : State :=
  let s1 := s.setCopier c (.busy (s.copyOf w line origin))
  (s1.withCarry { s1.carry with nextTake := s.carry.nextTake + 1 }).retest

/-- R42: the copier that would take and what it would take. -/
def State.nextCopy (s : State) : Option (Fin 2 × WindowId × Nat × CopyOrigin) :=
  match s.idleCopier, s.firstCandidate with
  | some c, some (w, line, origin) => some (c, w, line, origin)
  | _, _ => none

/-- COPIER_TAKE (R42, R43). -/
def execCopierTake (s : State) : Host.Outcome State Fault Refusal :=
  let q := s.quiet
  match q.nextCopy with
  | none => .next q
  | some (c, w, line, origin) => .next (q.takeLine c w line origin)

/-! ## The end of a copy -/

/-- R40: a copier returns to IDLE. -/
def State.freeCopier (s : State) (c : Fin 2) : State :=
  s.setCopier c .idle

/-- R46: the copy's line leaves the carry set and its demand entry leaves the queue; R25 and R79 follow. -/
def State.lineCopied (s : State) (w : WindowId) (line : Nat) : State :=
  let s1 := s.setWindow w { s.windows[w] with carry := LineSet.remove line s.windows[w].carry }
  ((s1.dropEntry w line).endCarry w).testRollbacks

/-- R45, R46: an OKAY result of an owned copy. -/
def State.copyOkay (s : State) (c : Fin 2) (k : CopyRecord) (data : List Beat) : State :=
  match k.phase with
  | .reading => s.setCopier c (.busy { k with phase := .writing, buffer := data, granted := false })
  | .writing => (s.freeCopier c).lineCopied k.window k.line

/-- R47: the line that the failed request of a copy addressed. -/
def CopyRecord.requestAddress (k : CopyRecord) : Address :=
  match k.phase with
  | .reading => k.source
  | .writing => k.destination

/-- R137, R45 to R48: the result of a copier's request. -/
def State.copyResult (s : State) (c : Fin 2) (ok : Bool) (data : List Beat) : State :=
  match s.carry.copiers[c] with
  | .idle => s
  | .busy k =>
    if !k.owned then s.freeCopier c
    else if ok then s.copyOkay c k data
    else (s.freeCopier c).faultWindow k.window k.requestAddress

end Sys2Proof.Machine
end

