-- ==== Sys2Proof/Machine/BootLoad.lean ====
section
/-! DEFINITION. The start-up controller: reading the pointer, the header and the body (R174, R175), the tests of the image and
the application of its records (R176, R185), the ENABLEs (R177) and the failure of a load (R178). -/

namespace Sys2Proof.Machine

/-! ## Values of fields, as a link write or an image record gives them (R5, R81, R181, R182) -/

/-- A window number 0..15. -/
def windowOf (n : Nat) : Option WindowId :=
  if h : n < 16 then some ⟨n, h⟩ else none

/-- A group number 0..3 (R181). -/
def groupOf (n : Nat) : Option GroupId :=
  if h : n < 4 then some ⟨n, h⟩ else none

/-- A source code: 0 E0, 1 E1, 2 E2 (R182). -/
def sourceOf (n : Nat) : Option SourceId :=
  if h : n < 3 then some ⟨n, h⟩ else none

/-- A lag: 1 or 2 (R182). -/
def lagOf (n : Nat) : Option Lag :=
  if n = 1 then some .one else if n = 2 then some .two else none

/-- A foreign policy code: 0 ERROR, 1 DROP, 2 BOTH (R181). -/
def policyOf (n : Nat) : Option ForeignPolicy :=
  if n = 0 then some .error else if n = 1 then some .drop else if n = 2 then some .both else none

/-- R81: a present trigger names a window 0..15 and an offset 0..131071. -/
def triggerOf (window offset : Nat) : Option Trigger :=
  match windowOf window with
  | none => none
  | some w => if offset ≤ 131071 then some { window := w, offset := offset } else none

/-! ## The image (R185) -/

/-- The value of `n` bytes from an offset, little-endian. -/
def imageValue (bytes : List Byte) (offset n : Nat) : Nat :=
  valueOf ((bytes.drop offset).take n)

/-- R185: the window-record count of the header. -/
def imageWindows (bytes : List Byte) : Nat := imageValue bytes 4 1

/-- R185: the group-record count of the header. -/
def imageGroups (bytes : List Byte) : Nat := imageValue bytes 5 1

/-- R175: the image length in bytes, 8 + 16·ng + 16·nw + 4. -/
def imageLength (bytes : List Byte) : Nat :=
  8 + 16 * imageGroups bytes + 16 * imageWindows bytes + 4

/-- R185: the group record at a place of the image. -/
def groupRecord (bytes : List Byte) (i : Nat) : List Byte :=
  (bytes.drop (8 + 16 * i)).take 16

/-- R185: the window record at a place of the image. -/
def windowRecord (bytes : List Byte) (i : Nat) : List Byte :=
  (bytes.drop (8 + 16 * imageGroups bytes + 16 * i)).take 16

/-- R176: the sum of the words of the image, each little-endian, modulo 2^32. -/
def wordSum : List Byte → BitVec 32
  | a :: b :: c :: d :: rest => BitVec.ofNat 32 (valueOf [a, b, c, d]) + wordSum rest
  | _ => 0

/-- R175: tests 2 to 5 of the header, in order: the cause of the first failure. -/
def headerFailure (bytes : List Byte) : Option BootCause :=
  if imageValue bytes 0 4 ≠ Config.bootSignature then some .signature
  else if imageValue bytes 6 2 ≠ 0 then some .signature
  else if 16 < imageWindows bytes then some .count
  else if 4 < imageGroups bytes then some .count
  else none

/-- R176: the tests of the whole image, in order: the cause of the first failure. -/
def imageFailure (bytes : List Byte) : Option BootCause :=
  if wordSum (bytes.take (imageLength bytes)) ≠ 0 then some .checksum
  else if (List.range (imageGroups bytes)).any fun i => decide (3 < imageValue (groupRecord bytes i) 0 1) then some .count
  else if (List.range (imageWindows bytes)).any fun i => decide (15 < imageValue (windowRecord bytes i) 0 1) then some .count
  else none

/-! ## Applying the records (R176) -/

/-- R176, R185: the trigger after a group record. -/
def recordTrigger (record : List Byte) (held : Option Trigger) : Option Trigger :=
  if imageValue record 6 1 = 0 then none
  else match triggerOf (imageValue record 7 1) (imageValue record 8 3) with
    | some x => some x
    | none => held

/-- R176: a group after a record of the image; a refused value leaves its field. -/
def Group.withRecord (r : Group) (record : List Byte) : Group :=
  { r with
    producers := BitVec.ofNat 16 (imageValue record 1 2)
    source := (sourceOf (imageValue record 3 1)).getD r.source
    lag := (lagOf (imageValue record 4 1)).getD r.lag
    hold := decide (imageValue record 5 1 ≠ 0)
    trigger := recordTrigger record r.trigger }

/-- R176: a window after a record of the image. -/
def Window.withRecord (r : Window) (record : List Byte) : Window :=
  { r with
    base := BitVec.ofNat 32 (imageValue record 1 4)
    twin := BitVec.ofNat 32 (imageValue record 5 4)
    sizeCode := BitVec.ofNat 8 (imageValue record 9 1)
    group := (groupOf (imageValue record 10 1)).getD r.group
    policy := (policyOf (imageValue record 11 1)).getD r.policy
    enableAtBoot := decide (imageValue record 12 1 ≠ 0) }

/-- R176: one group record is applied to the group it names. -/
def State.applyGroupRecord (bytes : List Byte) (s : State) (i : Nat) : State :=
  match groupOf (imageValue (groupRecord bytes i) 0 1) with
  | none => s
  | some g => s.setGroup g (s.groups[g].withRecord (groupRecord bytes i))

/-- R176: one window record is applied to the window it names. -/
def State.applyWindowRecord (bytes : List Byte) (s : State) (i : Nat) : State :=
  match windowOf (imageValue (windowRecord bytes i) 0 1) with
  | none => s
  | some w => s.setWindow w (s.windows[w].withRecord (windowRecord bytes i))

/-- R177: ENABLE of one window whose enable-at-boot flag is set; a refused one changes nothing. -/
def State.enableAtBootLoad (s : State) (w : WindowId) : State :=
  if s.windows[w].enableAtBoot then (s.enableWindow w).2 else s

/-- R176: group records in image order, then window records in image order. -/
def State.applyImage (s : State) (bytes : List Byte) : State :=
  (List.range (imageWindows bytes)).foldl (State.applyWindowRecord bytes)
    ((List.range (imageGroups bytes)).foldl (State.applyGroupRecord bytes) s)

/-! ## The load -/

/-- R173: the controller ends the load with a record. -/
def State.endBoot (s : State) (r : EventRecord) : State :=
  (s.record r).withStartUp { s.startUp with state := .ended, read := none, bytes := [] }

/-- R178: a load that fails a check. -/
def State.bootFail (s : State) (cause : BootCause) : State :=
  s.endBoot (.bootBad cause)

/-- R176, R177: the whole image is read: test it, apply it, enable the windows it marks, record BOOT_DONE. -/
def State.bootApply (s : State) (bytes : List Byte) : State :=
  match imageFailure bytes with
  | some cause => s.bootFail cause
  | none => ((places 16).foldl State.enableAtBootLoad (s.applyImage bytes)).endBoot .bootDone

/-- R174: the controller presents a read. -/
def StartUp.presenting (u : StartUp) (address : Address) (beats : Nat) : StartUp :=
  { u with read := some { address := address, beats := beats, granted := false } }

/-- R174: the load begins: POINTER, with the read of the boot pointer presented. -/
def State.bootStart (s : State) : State :=
  s.withStartUp (({ state := .pointer, read := none, pointer := 0, bytes := [] } : StartUp).presenting
    Config.bootPointerAddress 1)

/-- R175: the beats of the next body read, from the first byte not yet read to the end of its line or to the beat that holds
the last byte of the image. -/
def bodyBeats (start : Address) (readBytes length : Nat) : Nat :=
  min ((64 - start.toNat % 64) / 8) (((length + 7) / 8 * 8 - readBytes) / 8)

/-- R175: the next body read. -/
def State.bootNextRead (s : State) (bytes : List Byte) : State :=
  let start := s.startUp.pointer + BitVec.ofNat 32 bytes.length
  s.withStartUp (({ s.startUp with bytes := bytes }).presenting start (bodyBeats start bytes.length (imageLength bytes)))

/-- R174: the answer to the pointer read: the low four bytes of the beat are the pointer. -/
def State.bootPointer (s : State) (data : List Beat) : State :=
  let pointer : Address := (data.getD 0 0).setWidth 32
  if pointer.toNat % 8 ≠ 0 then s.bootFail .pointer
  else s.withStartUp (({ s.startUp with state := .image, pointer := pointer, bytes := [] }).presenting pointer 1)

/-- R175, R176: the answer to the header read or to a body read. -/
def State.bootImage (s : State) (data : List Beat) : State :=
  let bytes := s.startUp.bytes ++ data.flatMap beatBytes
  if s.startUp.bytes.isEmpty then
    match headerFailure bytes with
    | some cause => s.bootFail cause
    | none => s.bootNextRead bytes
  else if bytes.length < imageLength bytes then s.bootNextRead bytes
  else s.bootApply bytes

/-- R137, R174 to R178: the result of the controller's read. -/
def State.bootResult (s : State) (ok : Bool) (data : List Beat) : State :=
  if ok then
    match s.startUp.state with
    | .pointer => s.bootPointer data
    | .image => s.bootImage data
    | .none | .pending | .ended => s
  else s.bootFail .memory

end Sys2Proof.Machine
end

