-- ==== Sys2Proof/Machine/MemoryPortUnit.lean ====
section
/-! DEFINITION. The memory port: presented requests and their classes (R131, R134), the grant decision with the share rule
(R135), the grant with the owner's issue steps (R133, R105), responses (R137, R138), timeouts (R139) and fences (R140), with
the meanings of MEM_GRANT, MEM_RESPONSE, MEM_TIMEOUT and FENCE_END. -/

namespace Sys2Proof.Machine

/-! ## Presented requests (R131) -/

/-- The classes of R134. -/
inductive RequestClass where
  | boot
  | demandCopy
  | urgentCopy
  | upstream
  | ordinaryCopy
  deriving DecidableEq, Repr

/-- R44, R134: the class of a copy's request at a grant decision. -/
def State.copyClass (s : State) (k : CopyRecord) : RequestClass :=
  match k.origin with
  | .demand => .demandCopy
  | .background => if s.urgent k.window then .urgentCopy else .ordinaryCopy

/-- The copy whose request of this class a copier presents. -/
def State.presentedCopy (s : State) (cls : RequestClass) (c : Fin 2) : Option CopyRecord :=
  match s.carry.copiers[c] with
  | .idle => none
  | .busy k => if !k.granted && decide (s.copyClass k = cls) then some k else none

/-- R134: within a class of copies, the copy taken first. -/
def State.chooseCopy (s : State) (cls : RequestClass) : Option Owner :=
  match s.presentedCopy cls 0, s.presentedCopy cls 1 with
  | some a, some b => if b.taken < a.taken then some (.copier 1) else some (.copier 0)
  | some _, none => some (.copier 0)
  | none, some _ => some (.copier 1)
  | none, none => none

/-- R131, R35: whether a presented shadow write is held by the drain of its bank. -/
def State.shadowHeld (s : State) (t : Transfer) (bank : Bank) : Bool :=
  match t.window with
  | none => false
  | some w => decide (s.windows[w].shadow = bank) && s.draining w

/-- R105, R131: the eligible request that a transfer presents, if any. -/
def State.presentedPart (s : State) (t : Transfer) : Option TransferPart :=
  match t.phase with
  | .waiting => none
  | .ready => some .first
  | .issued =>
    match t.shadow with
    | .presented bank _ => if s.shadowHeld t bank then none else some .shadow
    | .absent | .outstanding _ | .answered _ _ => none

/-- R134: the eligible upstream request of lowest acceptance number. -/
def State.chooseUpstream (s : State) : Option Owner :=
  s.slotsByAge.findSome? fun i => match s.port.slots[i] with
    | none => none
    | some t => (s.presentedPart t).map fun part => .transfer i part

/-- The start-up controller's presented read (R174). -/
def State.chooseBoot (s : State) : Option Owner :=
  match s.startUp.read with
  | some r => if r.granted then none else some .startUp
  | none => none

/-! ## The grant decision (R134, R135) -/

/-- The first request of a list of classes, in order. -/
def firstOf : List (RequestClass × Option Owner) → Option (RequestClass × Owner)
  | [] => none
  | (cls, some o) :: _ => some (cls, o)
  | (_, none) :: rest => firstOf rest

/-- R134, R135: the request that a grant decision chooses; with the share counter at 4 an eligible ordinary copy stands above
upstream. -/
def State.chooseRequest (s : State) : Option (RequestClass × Owner) :=
  let upper := [(RequestClass.boot, s.chooseBoot), (.demandCopy, s.chooseCopy .demandCopy),
    (.urgentCopy, s.chooseCopy .urgentCopy)]
  let lower := [(RequestClass.upstream, s.chooseUpstream), (.ordinaryCopy, s.chooseCopy .ordinaryCopy)]
  if s.mem.share = Config.shareLimit then firstOf (upper ++ lower.reverse) else firstOf (upper ++ lower)

/-- R135: the share counter after a grant. -/
def State.shareAfter (s : State) (cls : RequestClass) : Nat :=
  match cls with
  | .upstream => if (s.chooseCopy .ordinaryCopy).isSome then min (s.mem.share + 1) Config.shareLimit else 0
  | .ordinaryCopy => 0
  | .boot | .demandCopy | .urgentCopy => s.mem.share

/-- R133: the lowest-numbered FREE slot. -/
def State.freeMemSlot (s : State) : Option (Fin 12) :=
  (placesWhere (fun m => decide (m = MemSlot.free)) s.mem.slots).head?

/-! ## The owner's issue steps (R133 step 4) -/

/-- R105: the physical address of a transfer's first request at its grant. -/
def State.issueAddress (s : State) (t : Transfer) : Address :=
  match t.readAddress, t.window with
  | some a, _ => a
  | none, none => t.request.address
  | none, some w =>
    let r := s.windows[w]
    match t.route with
    | .passThrough => t.request.address
    | .liveBank => r.copyAddress r.live t.request.address
    | .shadowBank => r.copyAddress r.shadow t.request.address
    | .bothBanks => r.copyAddress r.live t.request.address

/-- R52: whether the issue of a write cancels its line. -/
def State.cancels (s : State) (t : Transfer) : Bool :=
  s.stale t && t.request.wholeLine

/-- R13, R32, R52: the issue of a producer write: its line joins the dirty set; a whole-line write to a line in the carry set
cancels the line. -/
def State.stageLine (s : State) (t : Transfer) (w : WindowId) : State :=
  let r := s.windows[w]
  let line := r.lineIndex t.request.address
  if s.cancels t then
    let s1 := s.setWindow w { r with carry := LineSet.remove line r.carry, dirty := LineSet.insert line r.dirty }
    ((s1.dropEntry w line).endCarry w).testRollbacks
  else s.setWindow w { r with dirty := LineSet.insert line r.dirty }

/-- R13: the window unit's issue step of a write; other transfers touch no set. -/
def State.issueSteps (s : State) (t : Transfer) : State :=
  match t.route, t.window with
  | .shadowBank, some w => if t.request.kind.isWrite then s.stageLine t w else s
  | _, _ => s

/-- R16 step 2: the shadow write of a BOTH transfer at the issue of its live write, absent when the line is in the carry
set. -/
def State.shadowAtIssue (s : State) (t : Transfer) : MemoryResult :=
  match t.route, t.window with
  | .bothBanks, some w =>
    if s.stale t then .absent
    else .presented s.windows[w].shadow (s.windows[w].copyAddress s.windows[w].shadow t.request.address)
  | _, _ => .absent

/-- R105, R107: a transfer enters ISSUED; its hold count stops and is discarded. -/
def State.issuedTransfer (s : State) (t : Transfer) : Transfer :=
  { t with phase := .issued, hold := none, first := .outstanding (s.issueAddress t), shadow := s.shadowAtIssue t }

/-- The request that a transfer makes of memory at an address (R130). -/
def transferRequest (t : Transfer) (a : Address) : MemRequest :=
  { kind := if t.request.kind.isWrite then .write else .read
    address := a
    beats := t.request.beats
    data := t.request.data
    lanes := t.request.lanes }

/-- The request that a copier makes of memory (R43, R45, R130). -/
def copyRequest (k : CopyRecord) : MemRequest :=
  match k.phase with
  | .reading => { kind := .read, address := k.source, beats := 8, data := [], lanes := [] }
  | .writing =>
    { kind := .write, address := k.destination, beats := 8, data := k.buffer, lanes := List.replicate 8 0xFF }

/-- The read that the start-up controller makes of memory (R174). -/
def bootRequest (r : BootRead) : MemRequest :=
  { kind := .read, address := r.address, beats := r.beats, data := [], lanes := [] }

/-- The request an owner presents, as it is issued (R130), with the state after the owner's issue steps (R133). -/
def State.issue (s : State) (o : Owner) : Option (MemRequest × State) :=
  match o with
  | .startUp => s.startUp.read.map fun r =>
      (bootRequest r, s.withStartUp { s.startUp with read := some { r with granted := true } })
  | .copier c =>
    match s.carry.copiers[c] with
    | .idle => none
    | .busy k => some (copyRequest k, s.setCopier c (.busy { k with granted := true }))
  | .transfer i .first => s.port.slots[i].map fun t =>
      (transferRequest t (s.issueAddress t), (s.setSlot i (some (s.issuedTransfer t))).issueSteps t)
  | .transfer i .shadow =>
    match s.port.slots[i] with
    | none => none
    | some t =>
      match t.shadow with
      | .presented _ a => some (transferRequest t a, s.setSlot i (some { t with shadow := .outstanding a }))
      | .absent | .outstanding _ | .answered _ _ => none

/-- R133 steps 1 and 2: the slot becomes PENDING and the request goes to memory; the share counter follows R135. -/
def State.enterSlot (s : State) (k : Fin 12) (request : MemRequest) (o : Owner) (share : Nat) : State :=
  s.withMem
    { slots := s.mem.slots.set k (.pending request o 0 s.link.memoryLimit.toNat)
      share := share
      presented := some (k, request) }

/-- R133: what a grant decision would do now: the slot, the class, the owner, the request and the state after the owner's
issue steps. -/
def State.nextGrant (s : State) : Option (Fin 12 × RequestClass × Owner) :=
  match s.freeMemSlot, s.chooseRequest with
  | some k, some (cls, o) => some (k, cls, o)
  | _, _ => none

/-- R133: the grant of one request into one slot. -/
def State.grant (s : State) (k : Fin 12) (cls : RequestClass) (o : Owner) : State :=
  match s.issue o with
  | none => s
  | some (request, s1) => (s1.enterSlot k request o (s.shareAfter cls)).retest

/-- MEM_GRANT (R133, R134). With no FREE slot or no eligible request nothing is granted. -/
def execMemGrant (s : State) : Host.Outcome State Fault Refusal :=
  let q := s.quiet
  match q.nextGrant with
  | none => .next q
  | some (k, cls, o) => .next (q.grant k cls o)

/-! ## Results (R137) -/

/-- The status an issued transfer's request earned, if it is answered. -/
def MemoryResult.okay : MemoryResult → Bool
  | .answered _ ok => ok
  | .absent | .presented _ _ | .outstanding _ => true

/-- R110: whether no request of the transfer is waited for any more. -/
def MemoryResult.done : MemoryResult → Bool
  | .absent | .answered _ _ => true
  | .presented _ _ | .outstanding _ => false

/-- A request's result is recorded (R110). -/
def MemoryResult.settle (m : MemoryResult) (ok : Bool) : MemoryResult :=
  match m with
  | .outstanding a => .answered a ok
  | .absent => .absent
  | .presented b a => .presented b a
  | .answered a o => .answered a o

/-- R110: the transfer with one result recorded. -/
def Transfer.withResult (t : Transfer) (part : TransferPart) (ok : Bool) : Transfer :=
  match part with
  | .first => { t with first := t.first.settle ok }
  | .shadow => { t with shadow := t.shadow.settle ok }

/-- R111, R112: OKAY when every request was answered OKAY, else ERROR. -/
def Transfer.finalStatus (t : Transfer) : Status :=
  if t.first.okay && t.shadow.okay then .okay else .error

/-- R110 to R112: the result of one request of a transfer; the answer is given when the last result arrives. -/
def State.transferResult (s : State) (i : Fin 8) (part : TransferPart) (ok : Bool) (data : List Beat) : State :=
  match s.port.slots[i] with
  | none => s
  | some t =>
    let u := t.withResult part ok
    let s1 := s.setSlot i (some u)
    if u.first.done && u.shadow.done then s1.answer i u.finalStatus data else s1

/-- R137: a result is handed to its owner. -/
def State.handResult (s : State) (o : Owner) (ok : Bool) (data : List Beat) : State :=
  match o with
  | .transfer i part => s.transferResult i part ok data
  | .copier c => s.copyResult c ok data
  | .startUp => s.bootResult ok data

/-- R130, log 14: the beats a READ takes from its response: one per beat of the request; a beat the response does not carry is
a free value. -/
def responseBeats (uses : Nat) (request : MemRequest) (data : List Beat) : List Beat :=
  match request.kind with
  | .read => (List.range request.beats).map fun j => data.getD j (Config.freeBeat uses j)
  | .write => []

/-- Whether a READ's response leaves a beat open (log 14). -/
def beatsOpen (request : MemRequest) (data : List Beat) : Bool :=
  match request.kind with
  | .read => decide (data.length < request.beats)
  | .write => false

/-- Log 14: a use of free values is counted. -/
def State.countFree (s : State) (isOpen : Bool) : State :=
  if isOpen then s.withFreeUses (s.freeUses + 1) else s

/-- R137: a response to a PENDING slot; R97 fills the slots of the transaction table that it frees. -/
def State.respondPending (s : State) (k : Fin 12) (request : MemRequest) (o : Owner) (status : MemStatus)
    (data : List Beat) : State :=
  let s1 := s.setMemSlot k .free
  match status with
  | .okay =>
    ((s1.countFree (beatsOpen request data)).handResult o true
      (responseBeats s.freeUses request data)).retest.acceptStanding
  | .error => (s1.handResult o false []).retest.acceptStanding

/-- MEM_RESPONSE (R137, R138): matched to a slot by its identifier alone. -/
def execMemResponse (identifier : Fin 12) (status : MemStatus) (data : List Beat) (s : State) :
    Host.Outcome State Fault Refusal :=
  let q := s.quiet
  match q.mem.slots[identifier] with
  | .free => .next q
  | .fenced _ _ => .next (q.setMemSlot identifier .free)
  | .pending request o _ _ => .next (q.respondPending identifier request o status data)

/-! ## Timeouts and fences (R139, R140) -/

/-- R141: the window number of a MEM_TIMEOUT record. -/
def State.timeoutWindow (s : State) (o : Owner) : Option WindowId :=
  match o with
  | .transfer i _ =>
    match s.port.slots[i] with
    | none => none
    | some t => t.window
  | .copier c =>
    match s.carry.copiers[c] with
    | .idle => none
    | .busy k => some k.window
  | .startUp => none

/-- R139: a request times out: MEM_TIMEOUT is recorded (before what the result makes, R147), the slot is FENCED, and ERROR is
handed to the owner; R97 fills the slots of the transaction table that this frees. -/
def State.timeOut (s : State) (k : Fin 12) (request : MemRequest) (o : Owner) : State :=
  let s1 := (s.record (.memTimeout request.address (s.timeoutWindow o))).setMemSlot k
    (.fenced 0 s.link.memoryLimit.toNat)
  (s1.handResult o false []).retest.acceptStanding

/-- MEM_TIMEOUT (R139): taken when the response timer of a PENDING slot has reached its limit. -/
def execMemTimeout (k : Fin 12) (s : State) : Host.Outcome State Fault Refusal :=
  let q := s.quiet
  match q.mem.slots[k] with
  | .free => .next q
  | .fenced _ _ => .next q
  | .pending request o timer limit => if limit ≤ timer then .next (q.timeOut k request o) else .next q

/-- FENCE_END (R140): taken when the fence timer of a FENCED slot has reached its limit. -/
def execFenceEnd (k : Fin 12) (s : State) : Host.Outcome State Fault Refusal :=
  let q := s.quiet
  match q.mem.slots[k] with
  | .free => .next q
  | .pending _ _ _ _ => .next q
  | .fenced timer limit => if limit ≤ timer then .next (q.setMemSlot k .free) else .next q

end Sys2Proof.Machine
end

