-- ==== Sys2Proof/Machine/IndexSpace.lean ====
section
/-! DEFINITION. The index space of the management link: which field holds an index (R180 to R183), a field's width and access,
the bytes a field shows (R161, R180 to R184), and the value composed at a commit (R160). -/

namespace Sys2Proof.Machine

/-! ## Places (R180 to R183) -/

/-- R181: the field at an offset of a window record, with the place of the offset in the field. -/
def windowField (w : WindowId) (o : Nat) : Option (Field × Nat) :=
  if o < 0x04 then some (.windowBase w, o)
  else if o < 0x08 then some (.windowTwin w, o - 0x04)
  else if o = 0x08 then some (.windowSizeCode w, 0)
  else if o = 0x09 then some (.windowGroup w, 0)
  else if o = 0x0A then some (.windowPolicy w, 0)
  else if o = 0x0B then some (.windowEnableAtBoot w, 0)
  else if o < 0x1C then some (.windowStatus w, o - 0x0C)
  else none

/-- R182: the field at an offset of a group record. -/
def groupField (g : GroupId) (o : Nat) : Option (Field × Nat) :=
  if o < 0x02 then some (.groupProducers g, o)
  else if o = 0x02 then some (.groupSource g, 0)
  else if o = 0x03 then some (.groupLag g, 0)
  else if o = 0x04 then some (.groupHold g, 0)
  else if o < 0x09 then some (.groupTrigger g, o - 0x05)
  else if o < 0x10 then some (.groupStatus g, o - 0x09)
  else none

/-- R183: the field at an offset of a source record. -/
def sourceField (e : SourceId) (o : Nat) : Option (Field × Nat) :=
  if o < 0x04 then some (.sourceCounter e, o)
  else if o = 0x04 then some (.sourcePhase e, 0)
  else if o < 0x08 then some (.sourceCloseDelay e, o - 0x05)
  else if o < 0x0B then some (.sourceCloseTimer e, o - 0x08)
  else none

/-- R180: the global field at an index. -/
def globalField (n : Nat) : Option (Field × Nat) :=
  if n = 0x00 then some (.argument, 0)
  else if n = 0x01 then some (.code, 0)
  else if n = 0x02 then some (.result, 0)
  else if n = 0x03 then some (.writeRefused, 0)
  else if n < 0x06 then some (.holdLimit, n - 0x04)
  else if n < 0x08 then some (.lockLimit, n - 0x06)
  else if n < 0x0A then some (.memoryLimit, n - 0x08)
  else if n < 0x0C then none
  else if n < 0x10 then some (.eventMask, n - 0x0C)
  else if n = 0x10 then some (.eventCount, 0)
  else if n = 0x11 then some (.overrun, 0)
  else if n < 0x20 then none
  else if n < 0x30 then some (.headRecord, n - 0x20)
  else none

/-- R180: the field that holds an index, with the place of the index in the field; none where the index is unassigned. -/
def fieldAt (i : Index) : Option (Field × Nat) :=
  let n := i.toNat
  if n < 0x100 then globalField n
  else if n < 0x300 then
    match windowOf ((n - 0x100) / 32) with
    | none => none
    | some w => windowField w ((n - 0x100) % 32)
  else if n < 0x400 then none
  else if n < 0x440 then
    match groupOf ((n - 0x400) / 16) with
    | none => none
    | some g => groupField g ((n - 0x400) % 16)
  else if n < 0x480 then none
  else if n < 0x4B0 then
    match sourceOf ((n - 0x480) / 16) with
    | none => none
    | some e => sourceField e ((n - 0x480) % 16)
  else none

/-- R180 to R183: the number of bytes of a field. -/
def Field.width : Field → Nat
  | .argument | .code | .result | .writeRefused | .eventCount | .overrun => 1
  | .holdLimit | .lockLimit | .memoryLimit => 2
  | .eventMask => 4
  | .headRecord => 16
  | .windowBase _ | .windowTwin _ => 4
  | .windowSizeCode _ | .windowGroup _ | .windowPolicy _ | .windowEnableAtBoot _ => 1
  | .windowStatus _ => 16
  | .groupProducers _ => 2
  | .groupSource _ | .groupLag _ | .groupHold _ => 1
  | .groupTrigger _ => 4
  | .groupStatus _ => 7
  | .sourceCounter _ => 4
  | .sourcePhase _ => 1
  | .sourceCloseDelay _ => 3
  | .sourceCloseTimer _ => 3

/-- R162: the fields that refuse every write. -/
def Field.readOnly : Field → Bool
  | .result | .eventCount | .headRecord | .windowEnableAtBoot _ | .windowStatus _ | .groupStatus _ | .sourceCounter _
  | .sourcePhase _ | .sourceCloseTimer _ => true
  | .argument | .code | .writeRefused | .holdLimit | .lockLimit | .memoryLimit | .eventMask | .overrun | .windowBase _
  | .windowTwin _ | .windowSizeCode _ | .windowGroup _ | .windowPolicy _ | .groupProducers _ | .groupSource _
  | .groupLag _ | .groupHold _ | .groupTrigger _ | .sourceCloseDelay _ => false

/-! ## Codes -/

/-- R166. -/
def CommandResult.byte : CommandResult → Byte
  | .none => 0x00
  | .accepted => 0x01
  | .refusedState => 0x02
  | .refusedArgument => 0x03
  | .refusedOverlap => 0x04
  | .refusedBoot => 0x05

/-- R181. -/
def WindowState.byte : WindowState → Byte
  | .disabled => 0
  | .seeding => 1
  | .active => 2
  | .suspended => 3
  | .homing => 4
  | .faulted => 5

/-- R181. -/
def ForeignPolicy.byte : ForeignPolicy → Byte
  | .error => 0
  | .drop => 1
  | .both => 2

/-- R181. -/
def Bank.byte : Bank → Byte
  | .bank0 => 0
  | .bank1 => 1

/-- R182. -/
def Lag.byte : Lag → Byte
  | .one => 1
  | .two => 2

/-- R182: the state byte of the group status. -/
def GroupState.byte : GroupState → Byte
  | .opened => 0
  | .armed _ _ => 1
  | .blocked => 2

/-- R182: the arming detail of the group status. -/
def GroupState.detail : GroupState → Byte
  | .armed .one false => 1
  | .armed .two false => 2
  | .armed .one true => 3
  | .armed .two true => 4
  | .opened => 0
  | .blocked => 0

/-- R182: the marks of the group status. -/
def Group.marks (r : Group) : Byte :=
  flagByte r.rollbackPending + 2 * flagByte r.lastEpoch.isSome

/-- R83, R183: the remaining count as the link reads it; a stopped timer reads 0, and a running one never does: the last
tick of an expiring timer is taken with its expiry, and until then it reads 1 (log 4). -/
def CloseTimer.remaining : CloseTimer → Nat
  | .stopped => 0
  | .running n => n.toNat
  | .expiring => 1

/-- R183. -/
def SourcePhase.byte : SourcePhase → Byte
  | .opened => 0
  | .closed => 1

/-- R182: the trigger field. -/
def triggerBytes : Option Trigger → List Byte
  | none => [0, 0, 0, 0]
  | some x => BitVec.ofNat 8 (x.window.val + 1) :: bytesOf x.offset 3

/-- An optional 32-bit value: 0 when absent. -/
def optionalBytes (x : Option (BitVec 32)) : List Byte :=
  bytesOf (x.getD 0).toNat 4

/-- R184. -/
def ResetCause.byte : ResetCause → Byte
  | .line => 1
  | .soft => 2

/-- R184. -/
def BootCause.byte : BootCause → Byte
  | .pointer => 1
  | .memory => 2
  | .signature => 3
  | .checksum => 4
  | .count => 5

/-! ## The head record (R184) -/

/-- R184: the layout of a record: kind, master, window, group, cause, presence, two unused bytes, address, epoch. -/
def recordLayout (kind : Nat) (master window group cause presence : Byte) (address epoch : BitVec 32) : List Byte :=
  [BitVec.ofNat 8 kind, master, window, group, cause, presence, 0, 0] ++ bytesOf address.toNat 4 ++ bytesOf epoch.toNat 4

/-- A number below 256 as a byte. -/
def numberByte (n : Nat) : Byte := BitVec.ofNat 8 n

/-- An optional window or master number: 0 when absent. -/
def optionalNumber (w : Option (Fin 16)) : Byte :=
  match w with
  | none => 0
  | some x => numberByte x.val

/-- R184: the sixteen bytes of a record. -/
def EventRecord.bytes (r : EventRecord) : List Byte :=
  match r with
  | .flip g n => recordLayout r.kind 0 0 (numberByte g.val) 0 0 0 n
  | .missed g n => recordLayout r.kind 0 0 (numberByte g.val) 0 0 0 n
  | .seedDone w => recordLayout r.kind 0 (numberByte w.val) 0 0 0 0 0
  | .homeDone w => recordLayout r.kind 0 (numberByte w.val) 0 0 0 0 0
  | .rollbackDone g => recordLayout r.kind 0 0 (numberByte g.val) 0 0 0 0
  | .windowFault w a => recordLayout r.kind 0 (numberByte w.val) 0 0 0 a 0
  | .memTimeout a w => recordLayout r.kind 0 (optionalNumber w) 0 0 (flagByte w.isSome) a 0
  | .align m a => recordLayout r.kind (numberByte m.val) 0 0 0 0 a 0
  | .twinAccess m a w => recordLayout r.kind (numberByte m.val) (numberByte w.val) 0 0 0 a 0
  | .foreignWrite m a w => recordLayout r.kind (numberByte m.val) (numberByte w.val) 0 0 0 a 0
  | .holdExpired m a w => recordLayout r.kind (numberByte m.val) (optionalNumber w) 0 0 (flagByte w.isSome) a 0
  | .lockBroken m a => recordLayout r.kind (numberByte m.val) 0 0 0 0 a 0
  | .unlockOrphan m a => recordLayout r.kind (numberByte m.val) 0 0 0 0 a 0
  | .armRefused g m =>
    recordLayout r.kind (optionalNumber m) 0 (numberByte g.val) 0 (flagByte m.isSome) 0 0
  | .armDropped g => recordLayout r.kind 0 0 (numberByte g.val) 0 0 0 0
  | .reset c => recordLayout r.kind 0 0 0 c.byte 0 0 0
  | .bootDone => recordLayout r.kind 0 0 0 0 0 0 0
  | .bootBad c => recordLayout r.kind 0 0 0 c.byte 0 0 0

/-- R150, R184: the head as the field shows it; every byte 0 when the queue is empty. -/
def headBytes (records : List EventRecord) : List Byte :=
  match records with
  | [] => List.replicate 16 0
  | r :: _ => r.bytes

/-! ## The bytes of a field (R180 to R183) -/

/-- R181: the window status. -/
def Window.statusBytes (r : Window) : List Byte :=
  [r.state.byte, r.live.byte, flagByte r.publishedEpoch.isSome, flagByte r.faultAddress.isSome]
    ++ optionalBytes r.publishedEpoch ++ optionalBytes r.faultAddress
    ++ bytesOf r.dirty.length 2 ++ bytesOf r.carry.length 2

/-- R182: the group status. -/
def Group.statusBytes (r : Group) : List Byte :=
  [r.state.byte, r.state.detail, r.marks] ++ optionalBytes r.lastEpoch

/-- The bytes a field holds, lowest index first. -/
def State.fieldBytes (s : State) (f : Field) : List Byte :=
  match f with
  | .argument => [s.link.argument]
  | .code => [s.link.code]
  | .result => [s.link.result.byte]
  | .writeRefused => [flagByte s.link.writeRefused]
  | .holdLimit => bytesOf s.link.holdLimit.toNat 2
  | .lockLimit => bytesOf s.link.lockLimit.toNat 2
  | .memoryLimit => bytesOf s.link.memoryLimit.toNat 2
  | .eventMask => bytesOf s.events.mask.toNat 4
  | .eventCount => [numberByte s.events.records.length]
  | .overrun => [flagByte s.events.overrun]
  | .headRecord => headBytes s.events.records
  | .windowBase w => bytesOf s.windows[w].base.toNat 4
  | .windowTwin w => bytesOf s.windows[w].twin.toNat 4
  | .windowSizeCode w => [s.windows[w].sizeCode]
  | .windowGroup w => [numberByte s.windows[w].group.val]
  | .windowPolicy w => [s.windows[w].policy.byte]
  | .windowEnableAtBoot w => [flagByte s.windows[w].enableAtBoot]
  | .windowStatus w => s.windows[w].statusBytes
  | .groupProducers g => bytesOf s.groups[g].producers.toNat 2
  | .groupSource g => [numberByte s.groups[g].source.val]
  | .groupLag g => [s.groups[g].lag.byte]
  | .groupHold g => [flagByte s.groups[g].hold]
  | .groupTrigger g => triggerBytes s.groups[g].trigger
  | .groupStatus g => s.groups[g].statusBytes
  | .sourceCounter e => bytesOf s.timing.sources[e].counter.toNat 4
  | .sourcePhase e => [s.timing.sources[e].phase.byte]
  | .sourceCloseDelay e => bytesOf s.timing.sources[e].closeDelay.toNat 3
  | .sourceCloseTimer e => bytesOf s.timing.sources[e].closeTimer.remaining 3

/-! ## Snapshots (R161) -/

/-- R161, R150: a new snapshot of a field. -/
def State.snapshotOf (s : State) (f : Field) : Snapshot :=
  { field := f
    bytes := s.fieldBytes f
    namesRecord := decide (f = .headRecord) && !s.events.records.isEmpty }

/-- R161: the snapshot that serves a read of the byte at a place of a field: the frame's snapshot of that field, unless the
byte is the field's lowest or the frame holds none. -/
def State.snapshotFor (s : State) (f : Field) (o : Nat) : Snapshot :=
  match s.link.snapshot with
  | none => s.snapshotOf f
  | some n => if n.field = f && o ≠ 0 then n else s.snapshotOf f

/-- R159, R157: the link starts to send a byte: its most significant bit stands on MDO. -/
def Link.sending (l : Link) (b : Byte) : Link :=
  { l with out := some b, mdo := some b.msb }

/-- R159, R161, R162: the byte at an index is taken and its first bit presented on MDO; an unassigned index reads 0. -/
def State.present (s : State) (i : Index) : State :=
  match fieldAt i with
  | none => s.withLink (s.link.sending 0)
  | some (f, o) =>
    s.withLink ({ s.link with snapshot := some (s.snapshotFor f o) }.sending ((s.snapshotFor f o).bytes.getD o 0))

/-! ## Commits (R160) -/

/-- R160: the byte staged for an index in this frame, or the byte the field holds. -/
def composedByte (staging : List (Index × Byte)) (i : Index) (held : Byte) : Byte :=
  match staging.find? fun e => decide (e.1 = i) with
  | some e => e.2
  | none => held

/-- R160: the value composed at the commit of a field whose lowest byte is at `start`. -/
def State.composed (s : State) (f : Field) (start : Index) (staging : List (Index × Byte)) : Nat :=
  valueOf ((List.range f.width).map fun j =>
    composedByte staging (start + BitVec.ofNat 16 j) ((s.fieldBytes f).getD j 0))

end Sys2Proof.Machine
end

