-- ==== Sys2Proof/Machine/Resets.lean ====
section
/-! DEFINITION. The three resets (R30, R55, R82, R92, R114, R129, R143, R155, R171, R172, R173, R179), with the meanings of
PWRUP_N_FALL, PWRUP_N_RELEASE, RST_N_FALL and RST_N_RELEASE. -/

namespace Sys2Proof.Machine

/-! ## What RST_N and SOFT_RESET do to a block -/

/-- R30: the state of a window after RST_N or SOFT_RESET. -/
def WindowState.afterReset : WindowState → WindowState
  | .disabled => .disabled
  | .suspended | .seeding | .active | .homing | .faulted => .suspended

/-- R30, R55: a window after RST_N or SOFT_RESET. -/
def Window.afterReset (r : Window) : Window :=
  { r with
    state := r.state.afterReset
    faultAddress := none
    dirty := []
    carry := []
    liveReads0 := 0
    liveReads1 := 0 }

/-- R82: a group after RST_N or SOFT_RESET. -/
def Group.afterReset (r : Group) : Group :=
  { r with hold := false, state := .opened, rollbackPending := false }

/-- R92: a source after SOFT_RESET. -/
def Source.afterSoftReset (r : Source) : Source :=
  { r with phase := .opened, closeTimer := .stopped }

/-- R92: a source after RST_N. -/
def Source.afterLineReset (r : Source) : Source :=
  { r with counter := 0, phase := .opened, closeTimer := .stopped }

/-- R143: a memory slot after RST_N or SOFT_RESET, with the memory limit as it stands at the reset. -/
def MemSlot.afterReset (limit : Nat) : MemSlot → MemSlot
  | .free => .free
  | .pending _ _ _ _ => .fenced 0 limit
  | .fenced timer l => .fenced timer l

/-- R30, R55, R82, R114, R115, R129, R143: what RST_N and SOFT_RESET do alike. The acceptance order begins afresh, at 0 by
the model's choice (log 16). -/
def State.resetBlocks (s : State) : State :=
  { s with
    windows := mapTable (fun _ r => r.afterReset) s.windows
    carry := CarryEngine.powerOn
    groups := mapTable (fun _ r => r.afterReset) s.groups
    port := { s.port with slots := Vector.replicate 8 none, nextAcceptance := 0 }
    locks := Vector.replicate 4 none
    mem := { s.mem with slots := mapTable (fun _ m => m.afterReset s.link.memoryLimit.toNat) s.mem.slots, share := 0 } }

/-- R167, R155, R115: SOFT_RESET: the blocks other than the link, then the RESET record of cause SOFT; a request that stands
offered is accepted afterwards, into the empty table. -/
def State.softResetTaken (s : State) : State :=
  let s1 := s.resetBlocks
  ((s1.withTiming { s1.timing with sources := mapTable (fun _ r => r.afterSoftReset) s1.timing.sources }).record
    (.reset .soft)).acceptStanding

/-- R171: the link after RST_N. -/
def Link.afterLineReset (l : Link) : Link :=
  { Link.powerOn with holdLimit := l.holdLimit, lockLimit := l.lockLimit, memoryLimit := l.memoryLimit }

/-- R92, R84: the epoch timing unit after RST_N: the previous samples are taken anew at the release, and an edge found before
the reset makes no boundary after it. -/
def EpochTiming.afterLineReset (t : EpochTiming) : EpochTiming :=
  { sources := mapTable (fun _ r => r.afterLineReset) t.sources
    lastSample := Vector.replicate 2 none
    edges := Vector.replicate 2 false }

/-- R179: the start-up controller when RST_N falls: its read is withdrawn or abandoned and the bytes read are discarded; the
state is settled at the release. -/
def StartUp.afterLineFall (u : StartUp) : StartUp :=
  { u with read := none, bytes := [] }

/-- R172: the line-reset effects of every block. -/
def State.lineResetTaken (s : State) : State :=
  let s1 := s.resetBlocks
  ((s1.withTiming s1.timing.afterLineReset).withLink s1.link.afterLineReset).withStartUp s1.startUp.afterLineFall

/-! ## The reset lines (R172) -/

/-- R172: every block at its power-on value, with PWRUP_N low; the other pins keep their levels, and requests that the
interconnect holds offered stay offered (R97). -/
def State.poweredOn (s : State) : State :=
  { State.reset with
    port := { SystemPort.powerOn with offered := s.port.offered }
    pins := { s.pins with pwrupLow := true }
    freeUses := s.freeUses
    pending := s.pending }

/-- PWRUP_N_FALL (R172, R179). -/
def execPwrupNFall (s : State) : Host.Outcome State Fault Refusal :=
  let q := s.quiet
  if q.pins.pwrupLow then .next q else .next q.poweredOn

/-- PWRUP_N_RELEASE (R172, R173, R113): the BOOT strap is sampled; a load it asks for begins, or is PENDING while RST_N is
low; then what stands offered is accepted, if the port is open. -/
def execPwrupNRelease (boot : Bool) (s : State) : Host.Outcome State Fault Refusal :=
  let q := s.quiet
  if !q.pins.pwrupLow then .next q
  else
    let s1 := q.withPins { q.pins with pwrupLow := false }
    if !boot then .next s1.acceptStanding
    else if s1.pins.rstLow then .next (s1.withStartUp { s1.startUp with state := .pending })
    else .next s1.bootStart.acceptStanding

/-- RST_N_FALL (R172): while PWRUP_N is low the fall has no effect of its own. -/
def execRstNFall (s : State) : Host.Outcome State Fault Refusal :=
  let q := s.quiet
  if q.pins.rstLow then .next q
  else
    let s1 := q.withPins { q.pins with rstLow := true }
    if s1.pins.pwrupLow then .next s1 else .next s1.lineResetTaken

/-- R155, R173, R179: the release of RST_N: the RESET record of cause LINE, then the boot load it starts or ends. -/
def State.lineReleased (s : State) : State :=
  let s1 := s.record (.reset .line)
  match s1.startUp.state with
  | .pending => s1.bootStart
  | .pointer => s1.bootFail .memory
  | .image => s1.bootFail .memory
  | .none => s1
  | .ended => s1

/-- RST_N_RELEASE (R155, R173, R179); then what stands offered is accepted (R97, R113). While PWRUP_N is still low the
power-on reset goes on holding every block and no record is appended (log 21). -/
def execRstNRelease (s : State) : Host.Outcome State Fault Refusal :=
  let q := s.quiet
  if !q.pins.rstLow then .next q
  else
    let s1 := q.withPins { q.pins with rstLow := false }
    if s1.pins.pwrupLow then .next s1 else .next s1.lineReleased.acceptStanding

end Sys2Proof.Machine
end

