-- ==== Sys2Proof/Machine/ManagementLink.lean ====
section
/-! DEFINITION. Frames and data bytes of the management link: the frame states (R158), data bytes of a read frame (R159, R161,
R150), data bytes of a write frame with staging and commits (R160, R162, R170) and the tests of each owner (R5, R81, R65, R88,
R153, R149, R163, R186), with the meanings of the link's rows other than commands. -/

namespace Sys2Proof.Machine

/-! ## Frames (R158, R159) -/

/-- R159: the frame ends and forgets its index, staging buffer and snapshot. -/
def Link.ended (l : Link) : Link :=
  { l with
    frame := .idle
    inBits := []
    indexHigh := none
    staging := []
    snapshot := none
    out := none
    mdo := none }

/-- Whether MCLK stands between two bytes: no bit of a byte, and no first index byte, has been taken by itself, and MCLK is
low. -/
def State.betweenBytes (s : State) : Bool :=
  s.link.inBits.isEmpty && s.link.indexHigh.isNone && !s.pins.mclkHigh

/-- The frame state as the row of a completed byte finds it. Within a byte such a row is not this event, and finds no frame
(log 2, log 25). -/
def State.byteFrame (s : State) : Frame :=
  if s.betweenBytes then s.link.frame else .idle

/-- FRAME_OPEN (R158, R157): MSEL_N falls with MCLK low (log 25). While a reset is held the link ignores the lines, whose
levels still change (R169). -/
def execFrameOpen (s : State) : Host.Outcome State Fault Refusal :=
  let q := s.quiet
  if q.pins.mselLow then .next q
  else
    let s1 := q.withPins { q.pins with mselLow := true, mclkHigh := false }
    if s1.resetHeld then .next s1 else .next (s1.withLink { s1.link.ended with frame := .ident })

/-- FRAME_END (R159): MSEL_N rises. -/
def execFrameEnd (s : State) : Host.Outcome State Fault Refusal :=
  let q := s.quiet
  if q.pins.mselLow then .next ((q.withPins { q.pins with mselLow := false }).withLink q.link.ended) else .next q

/-- R158: the frame state after the identifier byte. -/
def identifiedFrame (b : Byte) : Frame :=
  if b &&& 0x7F = 0x2E then .index (if b.msb then .readFrame else .writeFrame) else .skip

/-- IDENTIFIER_BYTE (R158). -/
def execIdentifierByte (b : Byte) (s : State) : Host.Outcome State Fault Refusal :=
  let q := s.quiet
  match q.byteFrame with
  | .ident => .next (q.withLink { q.link with frame := identifiedFrame b })
  | .idle | .index _ | .read _ | .write _ | .skip => .next q

/-- INDEX_BYTES (R158): the index, high byte first. In a read frame the first data byte is presented, as at the falling edge
that follows (R159; log 11). -/
def execIndexBytes (high low : Byte) (s : State) : Host.Outcome State Fault Refusal :=
  let q := s.quiet
  let i : Index := high ++ low
  match q.byteFrame with
  | .index .readFrame => .next ((q.withLink { q.link with frame := .read i }).present i)
  | .index .writeFrame => .next (q.withLink { q.link with frame := .write i })
  | .idle | .ident | .read _ | .write _ | .skip => .next q

/-! ## Data bytes of a read frame (R159, R150) -/

/-- R150: completing the read of index 0x002F removes the head record that the snapshot names. -/
def State.completeRead (s : State) (i : Index) : State :=
  match s.link.snapshot with
  | none => s
  | some n =>
    if i = 0x002F && n.field = .headRecord && n.namesRecord then s.withEvents s.events.removeHead else s

/-- HEAD_RECORD_REMOVAL (R150, R159): the data byte at the current index of a read frame is complete; the index increases and
the next byte is presented, as at the falling edge that follows (log 11). -/
def execHeadRecordRemoval (s : State) : Host.Outcome State Fault Refusal :=
  let q := s.quiet
  match q.byteFrame with
  | .read i =>
    let s1 := q.completeRead i
    .next ((s1.withLink { s1.link with frame := .read (i + 1) }).present (i + 1))
  | .idle | .ident | .index _ | .write _ | .skip => .next q

/-! ## The owners' tests (R160) -/

/-- R5: the tests 4 to 6 of R23 on the values a SUSPENDED window would hold. -/
def Window.rangesValid (r : Window) : Bool :=
  r.sizeCodeValid && r.basesAligned && !r.selfOverlap

/-- R186: a change of a SUSPENDED window's ranges answers RETRY to every write routed and not yet issued that lies in the
ranges before or after it. -/
def State.settleRangeChange (s : State) (w : WindowId) (before after : Window) : State :=
  if before = after then s
  else ((s.setWindow w after).settleWrites (fun a => before.inRanges a || after.inRanges a) .retry).retest.acceptStanding

/-- R5: a commit to a window's base, twin or size code. -/
def State.commitRange (s : State) (w : WindowId) (after : Window) : State :=
  match s.windows[w].state with
  | .disabled => s.setWindow w after
  | .suspended => if after.rangesValid then s.settleRangeChange w s.windows[w] after else s.refuseWrite
  | .seeding | .active | .homing | .faulted => s.refuseWrite

/-- R5: a commit to a window's group or foreign policy; none where the value names none. -/
def State.commitMode (s : State) (w : WindowId) (after : Option Window) : State :=
  match s.windows[w].state, after with
  | .disabled, some r => (s.setWindow w r).testRollbacks
  | .suspended, some r => (s.setWindow w r).testRollbacks
  | _, _ => s.refuseWrite

/-- R81: a commit to a group's producers, source, lag or trigger: taken only while the group is OPEN and the value is
accepted. -/
def State.commitGroup (s : State) (g : GroupId) (after : Option Group) : State :=
  match s.groups[g].state, after with
  | .opened, some r => s.setGroup g r
  | _, _ => s.refuseWrite

/-- R182: a group with a composed trigger value: first byte 0 makes it absent, 1..16 names the window. -/
def Group.withTrigger (r : Group) (value : Nat) : Option Group :=
  if value % 256 = 0 then some { r with trigger := none }
  else match triggerOf (value % 256 - 1) (value / 256) with
    | none => none
    | some x => some { r with trigger := some x }

/-- R163: a limit is not 0. -/
def State.commitLimit (s : State) (value : Nat) (after : Link) : State :=
  if value = 0 then s.refuseWrite else s.withLink after

/-- R160: the commit of a composed value, by the owner of the field. -/
def State.commit (s : State) (f : Field) (v : Nat) : State :=
  match f with
  | .argument => s.withLink { s.link with argument := BitVec.ofNat 8 v }
  | .holdLimit => s.commitLimit v { s.link with holdLimit := BitVec.ofNat 16 v }
  | .lockLimit => s.commitLimit v { s.link with lockLimit := BitVec.ofNat 16 v }
  | .memoryLimit => s.commitLimit v { s.link with memoryLimit := BitVec.ofNat 16 v }
  | .eventMask => s.withEvents (s.events.setMask (BitVec.ofNat 32 v))
  | .overrun => if v = 0 then s.withEvents s.events.clearOverrun else s.refuseWrite
  | .writeRefused => if v = 0 then s.withLink { s.link with writeRefused := false } else s.refuseWrite
  | .windowBase w => s.commitRange w { s.windows[w] with base := BitVec.ofNat 32 v }
  | .windowTwin w => s.commitRange w { s.windows[w] with twin := BitVec.ofNat 32 v }
  | .windowSizeCode w => s.commitRange w { s.windows[w] with sizeCode := BitVec.ofNat 8 v }
  | .windowGroup w => s.commitMode w ((groupOf v).map fun g => { s.windows[w] with group := g })
  | .windowPolicy w => s.commitMode w ((policyOf v).map fun p => { s.windows[w] with policy := p })
  | .groupProducers g => s.commitGroup g (some { s.groups[g] with producers := BitVec.ofNat 16 v })
  | .groupSource g => s.commitGroup g ((sourceOf v).map fun e => { s.groups[g] with source := e })
  | .groupLag g => s.commitGroup g ((lagOf v).map fun l => { s.groups[g] with lag := l })
  | .groupHold g => s.writeHold g (decide (v ≠ 0))
  | .groupTrigger g => s.commitGroup g (s.groups[g].withTrigger v)
  | .sourceCloseDelay e => s.setSource e { s.timing.sources[e] with closeDelay := BitVec.ofNat 24 v }
  | .code => s
  | .result | .eventCount | .headRecord | .windowEnableAtBoot _ | .windowStatus _ | .groupStatus _ | .sourceCounter _
  | .sourcePhase _ | .sourceCloseTimer _ => s.refuseWrite

/-! ## Data bytes of a write frame (R160, R162, R170) -/

/-- R170: the fields that take writes during a boot load. -/
def Field.openInBoot : Field → Bool
  | .argument => true
  | .code => true
  | .writeRefused => true
  | _ => false

/-- R160, R162, R170: the byte written at an index that holds no command code. -/
def State.writeAt (s : State) (i : Index) (b : Byte) : State :=
  match fieldAt i with
  | none => s
  | some (f, o) =>
    if f.readOnly then s.refuseWrite
    else if s.bootInProgress && !f.openInBoot then s.refuseWrite
    else if o + 1 < f.width then s.withLink { s.link with staging := (i, b) :: s.link.staging }
    else
      (s.withLink { s.link with staging := [] }).commit f
        (s.composed f (i - BitVec.ofNat 16 o) ((i, b) :: s.link.staging))

/-- The rows of the table that a written data byte can be. -/
inductive ByteRow where
  | fieldWrite
  | windowConfigWrite
  | groupConfigWrite
  | holdWrite
  | closeDelayWrite
  | limitWrite
  | eventMaskWrite
  | overrunFlagClear
  | writeRefusedFlagClear
  | command
  deriving DecidableEq, Repr

/-- The row of a byte that commits a field. -/
def commitRow (f : Field) (b : Byte) : ByteRow :=
  match f with
  | .code => .command
  | .holdLimit | .lockLimit | .memoryLimit => .limitWrite
  | .eventMask => .eventMaskWrite
  | .overrun => if b = 0 then .overrunFlagClear else .fieldWrite
  | .writeRefused => if b = 0 then .writeRefusedFlagClear else .fieldWrite
  | .windowBase _ | .windowTwin _ | .windowSizeCode _ | .windowGroup _ | .windowPolicy _ => .windowConfigWrite
  | .groupProducers _ | .groupSource _ | .groupLag _ | .groupTrigger _ => .groupConfigWrite
  | .groupHold _ => .holdWrite
  | .sourceCloseDelay _ => .closeDelayWrite
  | .argument | .result | .eventCount | .headRecord | .windowEnableAtBoot _ | .windowStatus _ | .groupStatus _
  | .sourceCounter _ | .sourcePhase _ | .sourceCloseTimer _ => .fieldWrite

/-- The row of a byte written at an index: a staged, refused or unassigned byte is a FIELD_WRITE. -/
def byteRow (i : Index) (b : Byte) : ByteRow :=
  match fieldAt i with
  | none => .fieldWrite
  | some (f, o) => if o + 1 < f.width then .fieldWrite else commitRow f b

/-- R159: a data byte is written at the current index of a write frame, which then increases by one. -/
def State.writeByte (s : State) (i : Index) (b : Byte) : State :=
  let s1 := s.writeAt i b
  s1.withLink { s1.link with frame := .write (i + 1) }

/-- A completed data byte of a write frame, taken as the row it is; a byte of another row is not this event
(log 2). -/
def State.byteAs (s : State) (row : ByteRow) (b : Byte) : State :=
  match s.byteFrame with
  | .write i => if byteRow i b = row then s.writeByte i b else s
  | .idle | .ident | .index _ | .read _ | .skip => s

/-- FIELD_WRITE (R160, R162). -/
def execFieldWrite (b : Byte) (s : State) : Host.Outcome State Fault Refusal :=
  .next (s.quiet.byteAs .fieldWrite b)

/-- WINDOW_CONFIG_WRITE (R5, R186). -/
def execWindowConfigWrite (b : Byte) (s : State) : Host.Outcome State Fault Refusal :=
  .next (s.quiet.byteAs .windowConfigWrite b)

/-- GROUP_CONFIG_WRITE (R81, R182). -/
def execGroupConfigWrite (b : Byte) (s : State) : Host.Outcome State Fault Refusal :=
  .next (s.quiet.byteAs .groupConfigWrite b)

/-- HOLD_WRITE (R65). -/
def execHoldWrite (b : Byte) (s : State) : Host.Outcome State Fault Refusal :=
  .next (s.quiet.byteAs .holdWrite b)

/-- CLOSE_DELAY_WRITE (R88). -/
def execCloseDelayWrite (b : Byte) (s : State) : Host.Outcome State Fault Refusal :=
  .next (s.quiet.byteAs .closeDelayWrite b)

/-- LIMIT_WRITE (R163). -/
def execLimitWrite (b : Byte) (s : State) : Host.Outcome State Fault Refusal :=
  .next (s.quiet.byteAs .limitWrite b)

/-- EVENT_MASK_WRITE (R153). -/
def execEventMaskWrite (b : Byte) (s : State) : Host.Outcome State Fault Refusal :=
  .next (s.quiet.byteAs .eventMaskWrite b)

/-- OVERRUN_FLAG_CLEAR (R149). -/
def execOverrunFlagClear (s : State) : Host.Outcome State Fault Refusal :=
  .next (s.quiet.byteAs .overrunFlagClear 0)

/-- WRITE_REFUSED_FLAG_CLEAR (R162). -/
def execWriteRefusedFlagClear (s : State) : Host.Outcome State Fault Refusal :=
  .next (s.quiet.byteAs .writeRefusedFlagClear 0)

end Sys2Proof.Machine
end

