-- ==== Sys2Proof/Machine/Commands.lean ====
section
/-! DEFINITION. Execution of the management commands (R164 to R166), with the meanings of ENABLE, DISABLE, SUSPEND, PUBLISH,
ROLLBACK, BOUNDARY, SOFT_RESET and COMMAND_CODE_NAMING_NO_COMMAND. A command is the completion of its code byte at index
0x0001 of a write frame, with the argument the link holds. -/

namespace Sys2Proof.Machine

/-- R164 step 1: the code is held, and the index advances (R159). -/
def State.takeCode (s : State) (code : Byte) : State :=
  s.withLink { s.link with code := code, frame := .write 0x0002 }

/-- R164 step 3: the result is written to the result field. -/
def State.withResult (s : State) (result : CommandResult) : State :=
  s.withLink { s.link with result := result }

/-- R164, R165: one command: the boot test, then what the code's owner gives (its result and the state after it). -/
def State.runCommand (s : State) (code : Byte) (body : State → CommandResult × State) : State :=
  let s1 := s.takeCode code
  if s1.bootInProgress then s1.withResult .refusedBoot
  else (body s1).2.withResult (body s1).1

/-- R164: the code byte of a command, where the next data byte is written to the command code. -/
def State.command (s : State) (code : Byte) (body : State → CommandResult × State) : State :=
  if s.byteFrame = .write 0x0001 then s.runCommand code body else s

/-! ## What each command's owner gives -/

/-- R23 test 2: a command on the window that the argument names. -/
def State.onWindow (s : State) (body : WindowId → CommandResult × State) : CommandResult × State :=
  match windowOf s.link.argument.toNat with
  | none => (.refusedArgument, s)
  | some w => body w

/-- R63 test 2, R78 test 2: a command on the group that the argument names. -/
def State.onGroup (s : State) (body : GroupId → CommandResult × State) : CommandResult × State :=
  match groupOf s.link.argument.toNat with
  | none => (.refusedArgument, s)
  | some g => body g

/-- R23, R24. -/
def State.enableNamed (s : State) : CommandResult × State :=
  s.onWindow s.enableWindow

/-- R26. -/
def State.disableNamed (s : State) : CommandResult × State :=
  s.onWindow s.disableWindow

/-- R27. -/
def State.suspendNamed (s : State) : CommandResult × State :=
  s.onWindow s.suspendWindow

/-- R63. -/
def State.publishNamed (s : State) : CommandResult × State :=
  s.onGroup s.publishGroup

/-- R78. -/
def State.rollbackNamed (s : State) : CommandResult × State :=
  s.onGroup fun g => (.accepted, s.rollbackGroup g)

/-- R85: a boundary of E2. -/
def State.boundaryByCommand (s : State) : CommandResult × State :=
  (.accepted, s.boundaryOf 2)

/-- R167. -/
def State.softResetByCommand (s : State) : CommandResult × State :=
  (.accepted, s.softResetTaken)

/-- R165 test 2: a code that names no command. -/
def State.noCommand (s : State) : CommandResult × State :=
  (.refusedArgument, s)

/-- R165: the command that a code names. -/
def codeBody (code : Byte) : State → CommandResult × State :=
  if code = 0x01 then State.enableNamed
  else if code = 0x02 then State.disableNamed
  else if code = 0x03 then State.suspendNamed
  else if code = 0x04 then State.publishNamed
  else if code = 0x05 then State.rollbackNamed
  else if code = 0x06 then State.boundaryByCommand
  else if code = 0x07 then State.softResetByCommand
  else State.noCommand

/-! ## The rows -/

/-- ENABLE (R23, R24). -/
def execEnable (s : State) : Host.Outcome State Fault Refusal :=
  .next (s.quiet.command 0x01 State.enableNamed)

/-- DISABLE (R26). -/
def execDisable (s : State) : Host.Outcome State Fault Refusal :=
  .next (s.quiet.command 0x02 State.disableNamed)

/-- SUSPEND (R27). -/
def execSuspend (s : State) : Host.Outcome State Fault Refusal :=
  .next (s.quiet.command 0x03 State.suspendNamed)

/-- PUBLISH (R63). -/
def execPublish (s : State) : Host.Outcome State Fault Refusal :=
  .next (s.quiet.command 0x04 State.publishNamed)

/-- ROLLBACK (R78). -/
def execRollback (s : State) : Host.Outcome State Fault Refusal :=
  .next (s.quiet.command 0x05 State.rollbackNamed)

/-- BOUNDARY (R85). -/
def execBoundary (s : State) : Host.Outcome State Fault Refusal :=
  .next (s.quiet.command 0x06 State.boundaryByCommand)

/-- SOFT_RESET (R167). -/
def execSoftReset (s : State) : Host.Outcome State Fault Refusal :=
  .next (s.quiet.command 0x07 State.softResetByCommand)

/-- COMMAND_CODE_NAMING_NO_COMMAND (R165): codes 0x00 and 0x08 to 0xFF; another code is a command's own row (log 2). -/
def execCommandCodeNamingNoCommand (code : Byte) (s : State) : Host.Outcome State Fault Refusal :=
  if namesCommand code then .next s.quiet
  else .next (s.quiet.command code State.noCommand)

end Sys2Proof.Machine
end

