-- ==== Sys2Proof/Machine/Dispatch.lean ====
section
/-! DEFINITION. The dispatch of a command to its meaning: one arm for each row of spec/opcode_table.json. -/

namespace Sys2Proof.Machine

def exec (i : Instr) (s : State) : Host.Outcome State Fault Refusal :=
  match i with
  | .requestAcceptance r => Sys2Proof.Machine.execRequestAcceptance r s
  | .memGrant => Sys2Proof.Machine.execMemGrant s
  | .memResponse identifier status data => Sys2Proof.Machine.execMemResponse identifier status data s
  | .memTimeout slot => Sys2Proof.Machine.execMemTimeout slot s
  | .fenceEnd slot => Sys2Proof.Machine.execFenceEnd slot s
  | .copierTake => Sys2Proof.Machine.execCopierTake s
  | .holdLimitExpiry slot => Sys2Proof.Machine.execHoldLimitExpiry slot s
  | .lockLimitExpiry entry => Sys2Proof.Machine.execLockLimitExpiry entry s
  | .closeTimerExpiry source => Sys2Proof.Machine.execCloseTimerExpiry source s
  | .syncRisingEdge input level => Sys2Proof.Machine.execSyncRisingEdge input level s
  | .enable => Sys2Proof.Machine.execEnable s
  | .disable => Sys2Proof.Machine.execDisable s
  | .suspend => Sys2Proof.Machine.execSuspend s
  | .publish => Sys2Proof.Machine.execPublish s
  | .rollback => Sys2Proof.Machine.execRollback s
  | .boundary => Sys2Proof.Machine.execBoundary s
  | .softReset => Sys2Proof.Machine.execSoftReset s
  | .frameOpen => Sys2Proof.Machine.execFrameOpen s
  | .identifierByte b => Sys2Proof.Machine.execIdentifierByte b s
  | .indexBytes high low => Sys2Proof.Machine.execIndexBytes high low s
  | .frameEnd => Sys2Proof.Machine.execFrameEnd s
  | .fieldWrite b => Sys2Proof.Machine.execFieldWrite b s
  | .windowConfigWrite b => Sys2Proof.Machine.execWindowConfigWrite b s
  | .groupConfigWrite b => Sys2Proof.Machine.execGroupConfigWrite b s
  | .holdWrite b => Sys2Proof.Machine.execHoldWrite b s
  | .closeDelayWrite b => Sys2Proof.Machine.execCloseDelayWrite b s
  | .limitWrite b => Sys2Proof.Machine.execLimitWrite b s
  | .eventMaskWrite b => Sys2Proof.Machine.execEventMaskWrite b s
  | .overrunFlagClear => Sys2Proof.Machine.execOverrunFlagClear s
  | .writeRefusedFlagClear => Sys2Proof.Machine.execWriteRefusedFlagClear s
  | .headRecordRemoval => Sys2Proof.Machine.execHeadRecordRemoval s
  | .pwrupNFall => Sys2Proof.Machine.execPwrupNFall s
  | .pwrupNRelease boot => Sys2Proof.Machine.execPwrupNRelease boot s
  | .rstNFall => Sys2Proof.Machine.execRstNFall s
  | .rstNRelease => Sys2Proof.Machine.execRstNRelease s
  | .commandCodeNamingNoCommand code => Sys2Proof.Machine.execCommandCodeNamingNoCommand code s

end Sys2Proof.Machine
end

