-- ==== Sys2Proof/Machine/OwnEvents.lean ====
section
/-! DEFINITION. What the part does by itself when no command waits (log 3, log 5): the event of its own engines that is due. -/

namespace Sys2Proof.Machine

/-- R133: a grant that is possible is made at once. -/
def State.dueGrant (s : State) : Option Instr :=
  match s.nextGrant with
  | none => none
  | some _ => some .memGrant

/-- R42: a copier takes a line as soon as it is IDLE and a candidate exists. -/
def State.dueTake (s : State) : Option Instr :=
  match s.nextCopy with
  | none => none
  | some _ => some .copierTake

/-- R139, R140: whether a slot's timer has reached its limit, and the event this makes. -/
def MemSlot.due (k : Fin 12) : MemSlot → Option Instr
  | .free => none
  | .pending _ _ timer limit => if limit ≤ timer then some (.memTimeout k) else none
  | .fenced timer limit => if limit ≤ timer then some (.fenceEnd k) else none

/-- R139, R140: the first memory slot whose timer is due. -/
def State.dueMemory (s : State) : Option Instr :=
  (places 12).findSome? fun k => s.mem.slots[k].due k

/-- R108: the first transfer whose hold count is due. -/
def State.dueHold (s : State) : Option Instr :=
  (places 8).findSome? fun i => match s.port.slots[i] with
    | none => none
    | some t => if t.holdExpired then some (.holdLimitExpiry i) else none

/-- R125: the first lock entry whose age is due. -/
def State.dueLock (s : State) : Option Instr :=
  (places 4).findSome? fun j => match s.locks[j] with
    | none => none
    | some l => if l.limit ≤ l.age then some (.lockLimitExpiry j) else none

/-- R87: the first source whose close timer is due. -/
def State.dueClose (s : State) : Option Instr :=
  (places 3).findSome? fun e =>
    if s.timing.sources[e].closeTimer = .expiring then some (.closeTimerExpiry e) else none

/-- R84: the first input of which a sample found an edge; taking it leaves the level of its line. -/
def State.dueEdge (s : State) : Option Instr :=
  (places 2).findSome? fun i => if s.timing.edges[i] then some (.syncRisingEdge i s.pins.syncHigh[i]) else none

/-- The event of the part's own engines that is due: a grant, a take, the expiries, then the edges that samples found
(log 5). -/
def State.dueEvent (s : State) : Option Instr :=
  [s.dueGrant, s.dueTake, s.dueMemory, s.dueHold, s.dueLock, s.dueClose, s.dueEdge].findSome? id

end Sys2Proof.Machine
end

