-- ==== Sys2Proof/Machine/SerialLink.lean ====
section
/-! DEFINITION. The bits of the management link (R157): the edges of MCLK, the sample of MDI at a rising edge, the byte that the
eighth bit completes (R158 to R160, R164), and the bit that a falling edge places on MDO. -/

namespace Sys2Proof.Machine

/-- R157: the byte that eight bits carry, the first the most significant. -/
def byteOfBits (bits : List Bool) : Byte :=
  BitVec.ofNat 8 (bits.foldl (fun n b => 2 * n + b.toNat) 0)

/-! ## A completed byte -/

/-- R158: an index byte is complete; the second of the two gives the index, and the frame is READ or WRITE by its
direction. -/
def State.takeIndexByte (s : State) (d : Direction) (b : Byte) : State :=
  match s.link.indexHigh with
  | none => s.withLink { s.link with indexHigh := some b }
  | some high =>
    let i : Index := high ++ b
    s.withLink { s.link with
      indexHigh := none
      frame := match d with
        | .readFrame => .read i
        | .writeFrame => .write i }

/-- R159, R150: the read of the byte at the current index is complete, and the index increases; the next byte is taken at the
falling edge that follows. -/
def State.takeReadByte (s : State) (i : Index) : State :=
  let s1 := s.completeRead i
  s1.withLink { s1.link with frame := .read (i + 1) }

/-- R159, R160, R164: a data byte of a write frame is complete: at 0x0001 it is a command's code. -/
def State.takeWriteByte (s : State) (i : Index) (b : Byte) : State :=
  if i = 0x0001 then s.runCommand b (codeBody b) else s.writeByte i b

/-- R157 to R160: the byte completed by an eighth rising edge, by the frame state. -/
def State.takeByte (s : State) (b : Byte) : State :=
  match s.link.frame with
  | .ident => s.withLink { s.link with frame := identifiedFrame b }
  | .index d => s.takeIndexByte d b
  | .read i => s.takeReadByte i
  | .write i => s.takeWriteByte i b
  | .idle => s
  | .skip => s

/-! ## The edges of MCLK -/

/-- R157, R158: whether the frame state takes bits: outside a frame, and in a skipped one, every bit is ignored. -/
def Frame.takesBits : Frame → Bool
  | .idle | .skip => false
  | .ident | .index _ | .read _ | .write _ => true

/-- R157: the sample of MDI at a rising edge; the eighth of a byte completes it. -/
def State.sampleBit (s : State) (b : Bool) : State :=
  if s.link.frame.takesBits then
    if s.link.inBits.length < 7 then s.withLink { s.link with inBits := s.link.inBits ++ [b] }
    else (s.withLink { s.link with inBits := [] }).takeByte (byteOfBits (s.link.inBits ++ [b]))
  else s

/-- R157: a rising edge of MCLK, with the next bit of the controller on MDI. -/
def State.mclkRise (s : State) (b : Bool) (rest : List Bool) : State :=
  (s.withPins { s.pins with mclkHigh := true, line := rest }).sampleBit b

/-- R157, R159: what a falling edge places on MDO: in a read frame the first bit of the byte at the current index, which is
taken now, or the next bit of the byte being sent; at every other time MDO is undriven. -/
def State.presentBit (s : State) : State :=
  match s.link.frame with
  | .read i =>
    if s.link.inBits.isEmpty then s.present i
    else s.withLink { s.link with mdo := s.link.out.map fun b => b.getMsbD s.link.inBits.length }
  | .idle | .ident | .index _ | .write _ | .skip => s

/-- R157: a falling edge of MCLK. -/
def State.mclkFall (s : State) : State :=
  (s.withPins { s.pins with mclkHigh := false }).presentBit

/-- R157: the next edge of MCLK while MSEL_N is low and the controller has bits to send: the falling edge after a rising
one, else the rising edge of the next bit (log 25). With MSEL_N high the part ignores every edge, so none is an event. -/
def State.nextEdge (s : State) : Option State :=
  if !s.pins.mselLow then none
  else if s.pins.mclkHigh then some s.quiet.mclkFall
  else match s.pins.line with
    | [] => none
    | b :: rest => some (s.quiet.mclkRise b rest)

end Sys2Proof.Machine
end

