-- ==== Sys2Proof/Machine/Step.lean ====
section
/-! DEFINITION. One step: the command at the front of the queue, or, with an empty queue, what the part does by itself. -/

namespace Sys2Proof.Machine

/-- With an empty queue (log 3): an offered request that a slot is free for is accepted (R97), else the due event of the
part's own engines is taken, else an edge of MCLK comes while the controller sends bits (R157), else one tick of REFCLK
passes. -/
def idleStep (s : State) : Host.Outcome State Fault Refusal :=
  match s.nextAccepted with
  | some _ => .next s.quiet.acceptStanding
  | none =>
    match s.dueEvent with
    | some c => exec c s
    | none =>
      match s.nextEdge with
      | some t => .next t
      | none => .next s.tick

/-- One step of the part. -/
def step (s : State) : Host.Outcome State Fault Refusal :=
  match s.pending with
  | c :: rest => exec c (s.withPending rest)
  | [] => idleStep s

/-- The state with the command that a word spells put at the front of its queue; no word spells one (log 18). -/
def State.withFetchWord (s : State) (nbits w : Nat) : State :=
  match decodeTableWord nbits w with
  | some c => s.withPending (c :: s.pending)
  | none => s

end Sys2Proof.Machine
end

