-- ==== Sys2Proof/Safety.lean ====
section
/-! DEFINITION. What the manual promises of every state that the part can be in, in the terms the statements use. -/

namespace Sys2Proof.Machine

/-! ## Windows -/

/-- R31: no line is in both the dirty set and the carry set of a window. -/
abbrev Window.setsDisjoint (r : Window) : Prop :=
  ∀ line ∈ r.dirty, line ∉ r.carry

/-- R31: the sets hold line indices of the window. -/
abbrev Window.setsInRange (r : Window) : Prop :=
  ∀ line ∈ r.dirty ++ r.carry, line < r.lines

/-- R31: a set has no duplicates; it is listed ascending. -/
abbrev LineSet.ascending (l : LineSet) : Prop :=
  l.Pairwise (· < ·)

/-- R21: the sets of a DISABLED, SUSPENDED or FAULTED window are empty. -/
abbrev Window.setsMatchState (r : Window) : Prop :=
  (r.state = .disabled ∨ r.state = .suspended ∨ r.state = .faulted) → r.dirty = [] ∧ r.carry = []

/-- R21, R31: a HOMING window stages no write, so its dirty set is empty. -/
abbrev Window.homingClean (r : Window) : Prop :=
  r.state = .homing → r.dirty = []

/-- R4: the fault address is present exactly while the window is FAULTED. -/
abbrev Window.faultMatchesState (r : Window) : Prop :=
  r.faultAddress.isSome = true ↔ r.state = .faulted

/-- R3: a DISABLED window has LIVE = 0. -/
abbrev Window.disabledLive (r : Window) : Prop :=
  r.state = .disabled → r.live = .bank0

/-- R5, R23: a window that is not DISABLED has a size code of 12..20, bases that are multiples of its size, and ranges that do
not overlap each other. -/
abbrev Window.rangesKept (r : Window) : Prop :=
  r.state ≠ .disabled → r.rangesValid = true

/-- A property of every window. -/
abbrev State.everyWindow (s : State) (p : Window → Prop) : Prop :=
  ∀ w : WindowId, p s.windows[w]

/-! ## Groups -/

/-- R58: a group is BLOCKED exactly when at least one of its member windows is FAULTED. -/
abbrev State.blockedMatchesFaults (s : State) : Prop :=
  ∀ g : GroupId, s.groups[g].state = .blocked ↔ s.memberFaulted g = true

/-! ## Transfers and copies -/

/-- R98, R107: a transfer that is not yet issued is READY when no wait holds it and WAITING while one does. -/
abbrev State.transfersTested (s : State) : Prop :=
  ∀ i : Fin 8, ∀ t ∈ s.port.slots[i], t.unissued = true → (t.phase = .ready ↔ s.waits t = [])

/-- R107: a transfer in WAITING has a hold count, which has not passed the limit it took at its first wait. -/
abbrev State.holdsCounted (s : State) : Prop :=
  ∀ i : Fin 8, ∀ t ∈ s.port.slots[i],
    (t.phase = .waiting → t.hold.isSome = true) ∧ ∀ h ∈ t.hold, h.count ≤ h.limit

/-- R34: the number of transfers in the table that a window's count of a bank counts. -/
def State.countedReads (s : State) (w : WindowId) (b : Bank) : Nat :=
  ((places 8).filter fun i => match s.port.slots[i] with
    | none => false
    | some t => decide (t.window = some w) && decide (t.countedBank = some b)).length

/-- R34: each live-read count counts the transfers of the table that were counted in it. -/
abbrev State.countsExact (s : State) : Prop :=
  ∀ w : WindowId, ∀ b : Bank, s.windows[w].liveReads b = s.countedReads w b

/-- The copy record of a busy copier. -/
def Copier.record? : Copier → Option CopyRecord
  | .idle => none
  | .busy k => some k

/-- R49: a line copy and an upstream write to either copy of the same line are never in flight together. -/
abbrev State.copiesExcludeWrites (s : State) : Prop :=
  ∀ c : Fin 2, ∀ k ∈ s.carry.copiers[c].record?,
    s.writeInFlightOn k.source = false ∧ s.writeInFlightOn k.destination = false

/-- R33, R40, R43: an owned copy's line is in the carry set of a window whose lines are copied, from its take until its end,
and its source and destination are the line's live and shadow copies. -/
abbrev State.ownedCopiesCarried (s : State) : Prop :=
  ∀ c : Fin 2, ∀ k ∈ s.carry.copiers[c].record?, k.owned = true →
    s.windows[k.window].state.copies = true ∧ k.line ∈ s.windows[k.window].carry ∧
      k.source = s.windows[k.window].lineAddress s.windows[k.window].live k.line ∧
      k.destination = s.windows[k.window].lineAddress s.windows[k.window].shadow k.line

/-- R41 condition 2: no two copies in flight have a physical line in common. -/
abbrev State.copiesApart (s : State) : Prop :=
  ∀ c d : Fin 2, c ≠ d → ∀ k ∈ s.carry.copiers[c].record?, ∀ j ∈ s.carry.copiers[d].record?,
    k.source ≠ j.source ∧ k.source ≠ j.destination ∧ k.destination ≠ j.destination

/-- R37: the demand queue holds at most 8 entries, no two of the same line. -/
abbrev State.demandBounded (s : State) : Prop :=
  s.carry.demand.length ≤ Config.demandCapacity ∧ s.carry.demand.Nodup

/-! ## Interlock unit, event queue, memory port -/

/-- R31: every line set is listed in ascending order. -/
abbrev State.setsAscending (s : State) : Prop :=
  s.everyWindow fun r => LineSet.ascending r.dirty ∧ LineSet.ascending r.carry

/-- R116: no two entries of the lock table are on the same line. -/
abbrev State.locksDistinct (s : State) : Prop :=
  ∀ i j : Fin 4, ∀ a ∈ s.locks[i], ∀ b ∈ s.locks[j], a.line = b.line → i = j

/-- R145, R153, R154: the queue holds at most 32 records, positions of the mask that name no kind are clear, and IRQ_N is low
exactly while a record of an enabled kind is held. -/
abbrev EventQueue.consistent (q : EventQueue) : Prop :=
  q.records.length ≤ Config.eventCapacity ∧ q.mask &&& ~~~maskPositions = 0 ∧ q.irqLow = irqCondition q.mask q.records

/-- R135: the share counter lies in 0..4. -/
abbrev State.shareBounded (s : State) : Prop :=
  s.mem.share ≤ Config.shareLimit

/-- R163: each limit holds 1..65535. -/
abbrev Link.limitsPositive (l : Link) : Prop :=
  l.holdLimit ≠ 0 ∧ l.lockLimit ≠ 0 ∧ l.memoryLimit ≠ 0

/-- R157, R158: at most seven bits of a byte are held, and none outside a frame or in a skipped one; a first index byte is
held only before the index is complete; MDO is driven only in a read frame. -/
abbrev Link.serialConsistent (l : Link) : Prop :=
  l.inBits.length ≤ 7 ∧ (l.frame.takesBits = false → l.inBits = []) ∧
    (l.indexHigh.isSome = true → ∃ d, l.frame = .index d) ∧ (l.mdo.isSome = true → ∃ i, l.frame = .read i)

/-! ## Resets and the boot load -/

/-- R98, R103: what holds of a write that is routed and not yet issued: its window still is in the state that routed it, and
its address lies in that window's home range. -/
abbrev State.pendingWriteRouted (s : State) (t : Transfer) : Prop :=
  t.readAddress = none ∧ t.countedBank = none ∧ (t.window = none → t.route = .passThrough) ∧
    ∀ w ∈ t.window, s.windows[w].inHome t.request.address = true ∧ t.route ≠ .passThrough ∧
      (t.route = .liveBank → s.windows[w].state = .suspended) ∧
      (t.route = .shadowBank ∨ t.route = .bothBanks → s.windows[w].state.servesTwo = true)

/-- R22, R98: the same of every slot of the transaction table. -/
abbrev State.pendingWritesRouted (s : State) : Prop :=
  ∀ i : Fin 8, ∀ t ∈ s.port.slots[i], t.unissued = true → t.request.kind.isWrite = true → s.pendingWriteRouted t

/-- R9, R98: a READ or LOCKED_READ that is routed and not yet issued has the address that routing gave it. -/
abbrev State.pendingReadsAddressed (s : State) : Prop :=
  ∀ i : Fin 8, ∀ t ∈ s.port.slots[i], t.unissued = true → t.request.kind.isWrite = false → t.readAddress.isSome = true

/-- R97, R113: a request stands offered only while a reset is held or no slot is free. -/
abbrev State.offeredOnlyWhenClosed (s : State) : Prop :=
  s.resetHeld = true ∨ s.port.offered = [] ∨ ∀ i : Fin 8, s.port.slots[i] ≠ none

/-- R172, R173: no boot load is in progress while PWRUP_N is low; while one is or PWRUP_N is low, no window
is enabled, every group is OPEN, no transfer is held and no copier is busy. -/
abbrev State.bootQuiet (s : State) : Prop :=
  (s.pins.pwrupLow = true → s.bootInProgress = false) ∧ ((s.bootInProgress = true ∨ s.pins.pwrupLow = true) →
    (∀ w : WindowId, s.windows[w].state = .disabled) ∧ (∀ g : GroupId, s.groups[g].state = .opened) ∧
      (∀ i : Fin 8, s.port.slots[i] = none) ∧ (∀ c : Fin 2, s.carry.copiers[c] = .idle))

/-- R113, R115, R169: while either reset line is low no transfer is held and no frame is open. -/
abbrev State.resetQuiet (s : State) : Prop :=
  s.resetHeld = true → (∀ i : Fin 8, s.port.slots[i] = none) ∧ s.link.frame = .idle

/-! ## The invariants together -/

/-- What every window keeps: R3, R4, R21, R5 and R31. -/
abbrev Window.consistent (r : Window) : Prop :=
  r.setsDisjoint ∧ r.setsInRange ∧ r.setsMatchState ∧ r.homingClean ∧ r.faultMatchesState ∧ r.disabledLive ∧
    r.rangesKept

/-- The promises of the manual that one step keeps together. -/
structure State.Inv (s : State) : Prop where
  windows : s.everyWindow Window.consistent
  groups : s.blockedMatchesFaults
  transfers : s.transfersTested
  pendingWrites : s.pendingWritesRouted
  pendingReads : s.pendingReadsAddressed
  offered : s.offeredOnlyWhenClosed
  copies : s.ownedCopiesCarried
  copiers : s.copiesApart
  boot : s.bootQuiet
  reset : s.resetQuiet

/-! ## Terms of the statements -/

/-- R97: a request that is offered now is accepted into slot `i`: no reset is held, nothing else stands offered, and `i` is
the first free slot (the model's choice among several, log 24). -/
abbrev State.takes (s : State) (i : Fin 8) : Prop :=
  s.resetHeld = false ∧ s.port.offered = [] ∧ s.port.slots[i] = none ∧ ∀ j : Fin 8, j < i → s.port.slots[j] ≠ none

/-- R99: a request passes the checks that look at neither the windows nor the locks. -/
abbrev State.passesPortChecks (s : State) (r : Request) : Prop :=
  s.bootInProgress = false ∧ s.outstanding r = false ∧ r.aligned = true

/-- R99 check 4: the address lies in no twin range of a window that is not DISABLED. -/
abbrev State.passesTwinTest (s : State) (r : Request) : Prop :=
  ∀ w : WindowId, s.place r.address ≠ .twin w

/-- R97: the state as a request is accepted: the outputs of the event before are cleared (log 15) and the acceptance number is
used. -/
def State.accepted (s : State) : State :=
  s.quiet.withPort { s.quiet.port with nextAcceptance := s.port.nextAcceptance + 1 }

/-- R164, R159: the state after a command that changes nothing but the link: the code is held, the index advances, and the
result is written. -/
def State.commandDone (s : State) (code : Byte) (result : CommandResult) : State :=
  s.quiet.withLink { s.link with code := code, frame := .write 0x0002, result := result }

/-- R51, R53, R107: what a test after an event may change of a transfer: its phase and its hold count, and nothing once it is
issued. -/
abbrev Transfer.retestedAs (t u : Transfer) : Prop :=
  u = { t with phase := u.phase, hold := u.hold } ∧ (t.phase = .issued → u = t)

/-- Every transfer of a table but those in given slots is in the other table as a test after an event may leave it. -/
abbrev State.keepsTransfersBut (s t : State) (changed : Fin 8 → Prop) : Prop :=
  ∀ j : Fin 8, ¬ changed j → s.port.slots[j].isSome = t.port.slots[j].isSome ∧
    ∀ u ∈ s.port.slots[j], ∀ v ∈ t.port.slots[j], u.retestedAs v

/-- R121: an entry of the lock table is the one that a request, an UNLOCK_WRITE, has claimed. -/
abbrev Lock.isClaimOf (l : Lock) (r : Request) : Prop :=
  r.kind = .unlockWrite ∧ l.master = r.master ∧ l.line = lineOfAddress r.address ∧ l.claim = some r.tag

/-- R122: what the answer to an UNLOCK_WRITE leaves of the entry it claimed: RETRY lifts the claim and keeps the entry, OKAY
and ERROR free it. -/
def Lock.settled (l : Lock) (st : Status) : Option Lock :=
  if st = .retry then some { l with claim := none } else none

/-- R122: the lock table after the answer to one request: the entry the request claimed is settled, every other is as it
was. -/
abbrev State.settlesClaimOf (s t : State) (r : Request) (st : Status) : Prop :=
  ∀ j : Fin 4, t.locks[j] = match s.locks[j] with
    | none => none
    | some l => if l.isClaimOf r then l.settled st else some l

/-- R60, R62: the groups and the event queue after the answer to a transfer, `events` being the queue before the records of
the answer: a trigger write answered OKAY arms its group if it is OPEN, changes nothing if it is ARMED, and is refused with
ARM_REFUSED if it is BLOCKED; any other answer changes nothing. -/
abbrev State.armsByAnswer (s t : State) (events : EventQueue) (u : Transfer) (st : Status) : Prop :=
  (u.triggerMatch = none ∨ st ≠ .okay → t.groups = s.groups ∧ t.events = events) ∧
  ∀ g, u.triggerMatch = some g → st = .okay →
    (s.groups[g].state = .opened →
      t.groups = s.groups.set g { s.groups[g] with
        state := .armed s.groups[g].lag (decide (s.timing.sources[s.groups[g].source].phase = .closed)) } ∧
      t.events = events) ∧
    (∀ n late, s.groups[g].state = .armed n late → t.groups = s.groups ∧ t.events = events) ∧
    (s.groups[g].state = .blocked →
      t.groups = s.groups ∧ t.events = events.append (.armRefused g (some u.request.master)))

/-- R95, R97, R34, R62, R110, R122: the answer to a transfer of the table, with what it sets in motion, given by an event in
which no request stands offered: the response with the data of its status, the freed slot, the live-read count, the claimed
lock entry and the group; no other transfer is answered and no other block changes but the memory port. -/
abbrev State.endsTransfer (s t : State) (i : Fin 8) (u : Transfer) (st : Status) (data : List Beat) (events : EventQueue) :
    Prop :=
  t.port.slots[i] = none ∧ s.keepsTransfersBut t (· = i) ∧
  t.port.responses = [
    { master := u.request.master
      tag := u.request.tag
      status := st
      data := if u.request.kind.isWrite then [] else if st = .okay then data else List.replicate u.request.beats 0 }] ∧
  (u.window = none ∨ u.countedBank = none → t.windows = s.windows) ∧
  (∀ w b, u.window = some w → u.countedBank = some b →
    t.windows = s.windows.set w (s.windows[w].withLiveReads b (s.windows[w].liveReads b - 1))) ∧
  s.settlesClaimOf t u.request st ∧ s.armsByAnswer t events u st ∧
  t.carry.copiers = s.carry.copiers ∧ s.carry.demand <+: t.carry.demand ∧
  t.timing = s.timing ∧ t.link = s.link ∧ t.startUp = s.startUp ∧ t.pins = s.pins

/-- R22: a transfer is a write, routed and not yet issued, to an address that satisfies a test. -/
abbrev Transfer.isPendingWrite (u : Transfer) (hit : Address → Bool) : Prop :=
  u.phase ≠ .issued ∧ u.request.kind.isWrite = true ∧ hit u.request.address = true

/-- R22, R186: every write not yet issued to an address that satisfies a test is answered with a status and leaves the table,
and no other response is given; every other transfer stays as a test after an event may leave it. R122: a lock entry that
one of those writes claimed is settled by the status, every other is as it was. -/
abbrev State.settlesWrites (s t : State) (hit : Address → Bool) (st : Status) : Prop :=
  (∀ i : Fin 8, ∀ u ∈ s.port.slots[i], u.isPendingWrite hit →
    t.port.slots[i] = none ∧
      ({ master := u.request.master, tag := u.request.tag, status := st, data := [] } : Response) ∈ t.port.responses) ∧
  (∀ a ∈ t.port.responses, ∃ i : Fin 8, ∃ u ∈ s.port.slots[i], u.isPendingWrite hit ∧
    a = { master := u.request.master, tag := u.request.tag, status := st, data := [] }) ∧
  s.keepsTransfersBut t (fun i => ∃ u ∈ s.port.slots[i], u.isPendingWrite hit) ∧
  ∀ j : Fin 4, (s.locks[j] = none → t.locks[j] = none) ∧ ∀ l ∈ s.locks[j],
    ((∃ i : Fin 8, ∃ u ∈ s.port.slots[i], u.isPendingWrite hit ∧ l.isClaimOf u.request) → t.locks[j] = l.settled st) ∧
    ((∀ i : Fin 8, ∀ u ∈ s.port.slots[i], u.isPendingWrite hit → ¬ l.isClaimOf u.request) → t.locks[j] = some l)

/-- R22, R48: what settling leaves of a window's carry work, from the demand queue and the copiers before it: the window's
demand entries are gone and the others stand in their order, before any that the test after the event makes; a copy of the
window is disowned, or withdrawn if its request is not issued; the copies of other windows go on. -/
abbrev State.dropsCarryWork (t : State) (demand : List DemandEntry) (copiers : Vector Copier 2) (w : WindowId) : Prop :=
  (∀ d ∈ t.carry.demand, d.window ≠ w) ∧ (demand.filter fun d => decide (d.window ≠ w)) <+: t.carry.demand ∧
  ∀ d : Fin 2, t.carry.copiers[d] = match copiers[d] with
    | .idle => .idle
    | .busy k =>
      if k.window = w ∧ k.owned = true then if k.granted = true then .busy { k with owned := false } else .idle
      else .busy k

/-- What an event of the memory port or of a copier leaves unchanged when it ends no transfer: the windows, the groups, the
sources, the locks, the event queue, the link, the start-up controller and the pins. -/
abbrev State.keepsOtherBlocks (s t : State) : Prop :=
  t.windows = s.windows ∧ t.groups = s.groups ∧ t.timing = s.timing ∧ t.locks = s.locks ∧ t.events = s.events ∧
    t.link = s.link ∧ t.startUp = s.startUp ∧ t.pins = s.pins

/-- R159, R160: the link after a data byte that commits a field at an index of a write frame. -/
def Link.committed (l : Link) (i : Index) : Link :=
  { l with frame := .write (i + 1), staging := [] }

/-- R160: the byte that a commit takes at an index, the place `o` of a field: the one written there latest in the frame, or,
where the frame wrote none, the byte the field holds. -/
abbrev State.commitByte (s : State) (f : Field) (i : Index) (o : Nat) (b : Byte) : Prop :=
  let written := s.link.staging.find? fun e => decide (e.1 = i)
  written = some (i, b) ∨ written = none ∧ (s.fieldBytes f)[o]? = some b

/-- R160: the bytes below a field's highest index, lowest first, that the commit at that index takes. -/
abbrev State.lowerBytes (s : State) (f : Field) (i : Index) (bytes : List Byte) : Prop :=
  ∀ o < bytes.length, s.commitByte f (i - BitVec.ofNat 16 (bytes.length - o)) o (bytes.getD o 0)

/-- R50: a copy in flight, owned or disowned, has a line that a write would reach as its source or its destination. -/
abbrev State.copyReaches (s : State) (t : Transfer) : Prop :=
  ∃ c : Fin 2, ∃ k ∈ s.carry.copiers[c].record?, k.source ∈ s.writeTargets t ∨ k.destination ∈ s.writeTargets t

/-- R37: the demand entry of the line of a transfer in a window. -/
def State.entryFor (s : State) (t : Transfer) (w : WindowId) : DemandEntry :=
  { window := w, line := s.windows[w].lineIndex t.request.address }

/-- R37: a producer write of a window needs a demand entry: its line is in the carry set, no copy of the line is in flight,
and it is no whole-line write. -/
abbrev State.needsEntry (s : State) (t : Transfer) (w : WindowId) : Prop :=
  t.window = some w ∧ t.request.kind.isWrite = true ∧ t.route = .shadowBank ∧
    s.windows[w].lineIndex t.request.address ∈ s.windows[w].carry ∧ ¬ s.copyReaches t ∧ t.request.wholeLine = false

/-- An event of the part's own engines that is due, with its table in the order of log 5 and its number in that table: the
grant that is possible (R133), the take that is possible (R42), a response or fence timer at its limit (R139, R140), a
WAITING transfer's hold count at its limit (R108; on its return to WAITING too, log 4), a lock entry's age at its limit
(R125), a close timer that has expired (R87), an edge that a sample found (R84). -/
def State.ownDue (s : State) (table number : Nat) (c : Instr) : Prop :=
  (table = 0 ∧ number = 0 ∧ c = .memGrant ∧ (∃ k : Fin 12, s.mem.slots[k] = .free) ∧ s.chooseRequest ≠ none) ∨
  (table = 1 ∧ number = 0 ∧ c = .copierTake ∧ (∃ d : Fin 2, s.carry.copiers[d] = .idle) ∧ s.firstCandidate ≠ none) ∨
  (table = 2 ∧ ∃ k : Fin 12, number = k ∧
    ((∃ q o n l, s.mem.slots[k] = .pending q o n l ∧ l ≤ n ∧ c = .memTimeout k) ∨
      ∃ n l, s.mem.slots[k] = .fenced n l ∧ l ≤ n ∧ c = .fenceEnd k)) ∨
  (table = 3 ∧ ∃ i : Fin 8, number = i ∧ c = .holdLimitExpiry i ∧
    ∃ t h, s.port.slots[i] = some t ∧ t.phase = .waiting ∧ t.hold = some h ∧ h.limit ≤ h.count) ∨
  (table = 4 ∧ ∃ j : Fin 4, number = j ∧ c = .lockLimitExpiry j ∧ ∃ l, s.locks[j] = some l ∧ l.limit ≤ l.age) ∨
  (table = 5 ∧ ∃ e : SourceId, number = e ∧ c = .closeTimerExpiry e ∧ s.timing.sources[e].closeTimer = .expiring) ∨
  (table = 6 ∧ ∃ i : Fin 2, number = i ∧ c = .syncRisingEdge i s.pins.syncHigh[i] ∧ s.timing.edges[i] = true)

/-- Log 5: of the events that are due, the one that a step with an empty queue takes: of the first table that has one, the one
of the lowest number. -/
abbrev State.ownDueFirst (s : State) (c : Instr) : Prop :=
  ∃ n p, s.ownDue n p c ∧ ∀ m q d, s.ownDue m q d → n < m ∨ n = m ∧ p ≤ q

/-- R133: the lowest-numbered FREE slot of the memory request table. -/
abbrev State.firstFreeMemSlot (s : State) (k : Fin 12) : Prop :=
  s.mem.slots[k] = .free ∧ ∀ j : Fin 12, j < k → s.mem.slots[j] ≠ .free

/-- R79: whether the rollback-pending mark that a group had ends by an event: every member has an empty carry set after it. -/
abbrev State.rollbackEnds (t : State) (before : Vector Group 4) (g : GroupId) : Prop :=
  before[g].rollbackPending = true ∧ ∀ w : WindowId, t.windows[w].group = g → t.windows[w].carry = []

/-- R79: what the test of the rollback-pending marks leaves, from the groups and the event queue before it: each mark that
ends is clear and has its ROLLBACK_DONE, G0 first (log 23). -/
abbrev State.rollbacksEnd (t : State) (before : Vector Group 4) (events : EventQueue) : Prop :=
  (∀ g : GroupId, t.groups[g] =
    if t.rollbackEnds before g then { before[g] with rollbackPending := false } else before[g]) ∧
  t.events = (places 4).foldl (fun q g => if t.rollbackEnds before g then q.append (.rollbackDone g) else q) events

/-- R28, R47, R75, R79: the failure of the owned copy `r` of copier `c`, `events` being the event queue before WINDOW_FAULT:
its window is FAULTED with the line address of the failed request and both sets empty, its carry work is dropped and its
pending writes are answered ERROR, its group is BLOCKED and rollbacks that this completes end (log 23). Other windows, and
their copies, go on unaffected. -/
abbrev State.copyFaults (s t : State) (c : Fin 2) (r : CopyRecord) (events : EventQueue) : Prop :=
  let x := s.windows[r.window]
  let a := match r.phase with
    | .reading => r.source
    | .writing => r.destination
  let e := events.append (.windowFault r.window a)
  (t.windows[r.window].state = .faulted ∧ t.windows[r.window].faultAddress = some a ∧ t.windows[r.window].dirty = [] ∧
    t.windows[r.window].carry = [] ∧ t.windows[r.window].live = x.live ∧
    t.windows[r.window].publishedEpoch = x.publishedEpoch) ∧
  (s.Inv →
    t.windows = s.windows.set r.window { x with state := .faulted, faultAddress := some a, dirty := [], carry := [] }) ∧
  t.dropsCarryWork s.carry.demand (s.carry.copiers.set c .idle) r.window ∧
  t.rollbacksEnd (s.groups.set x.group { s.groups[x.group] with state := .blocked })
    (if s.groups[x.group].state.isArmed then e.append (.armDropped x.group) else e) ∧
  s.settlesWrites t x.inRanges .error ∧
  t.timing = s.timing ∧ t.link = s.link ∧ t.startUp = s.startUp ∧ t.pins = s.pins

/-- R76: the groups once a window is not FAULTED: its group, where BLOCKED with no other member FAULTED, is OPEN. -/
def State.groupsUnblocked (s : State) (w : WindowId) : Vector Group 4 :=
  let g := s.windows[w].group
  if s.groups[g].state = .blocked ∧ ∀ v : WindowId, v ≠ w → s.windows[v].group = g → s.windows[v].state ≠ .faulted then
    s.groups.set g { s.groups[g] with state := .opened }
  else s.groups

/-- R164: the code byte of a command is completed next, and no boot load refuses it. -/
abbrev State.takesCommand (s : State) : Prop :=
  s.byteFrame = .write 0x0001 ∧ s.bootInProgress = false

/-- The row of the table that a data byte of a write frame is, by its index and value (R160, R164). -/
def dataByteRow (i : Index) (b : Byte) : Instr :=
  match byteRow i b with
  | .fieldWrite => .fieldWrite b
  | .windowConfigWrite => .windowConfigWrite b
  | .groupConfigWrite => .groupConfigWrite b
  | .holdWrite => .holdWrite b
  | .closeDelayWrite => .closeDelayWrite b
  | .limitWrite => .limitWrite b
  | .eventMaskWrite => .eventMaskWrite b
  | .overrunFlagClear => .overrunFlagClear
  | .writeRefusedFlagClear => .writeRefusedFlagClear
  | .command =>
    if b = 0x01 then .enable
    else if b = 0x02 then .disable
    else if b = 0x03 then .suspend
    else if b = 0x04 then .publish
    else if b = 0x05 then .rollback
    else if b = 0x06 then .boundary
    else if b = 0x07 then .softReset
    else .commandCodeNamingNoCommand b

/-- The state with MCLK and the line at given places (R157). -/
def State.withClock (s : State) (high : Bool) (line : List Bool) : State :=
  s.withPins { s.pins with mclkHigh := high, line := line }

end Sys2Proof.Machine
end

