-- ==== Sys2Proof/Certificates/Slice0/Obligations.lean ====
section
/-! DEFINITION. The statements for the provers, block by block: what each command does, what it leaves, and what every step
keeps. -/

section

open Sys2Proof Sys2Proof.Machine

/-! ## The part as a machine -/

/-- One step takes the command at the front of the queue and runs it on the state with the queue's rest. -/
def Obligations.StepRunsFrontCommand : Prop :=
  ∀ (c : Instr) (rest : List Instr) (s : State), step (s.withPending (c :: rest)) = exec c (s.withPending rest)

/-- No command stops the part: every command has a next state. -/
def Obligations.EveryCommandAnswersNext : Prop :=
  ∀ (c : Instr) (s : State), ∃ t, exec c s = .next t

/-- The model's choice (log 3, log 5, log 25): with an empty queue a standing request is accepted if a slot is free, else
the due event of the part's own engines is taken, else an edge of MCLK comes while the controller sends bits, else one tick
passes. Of the due events a grant that is possible comes first, then a take, then the memory slots whose timer is at its
limit, the hold counts, the lock entries, the close timers and the edges that samples found, each table from its lowest
number (log 5); a hold count at its limit is due as soon as its transfer is in WAITING again (log 4). -/
def Obligations.IdleStepTakesOwnEventOrTick : Prop :=
  ∀ s : State, s.pending = [] →
    let standing := s.resetHeld = false ∧ s.port.offered ≠ [] ∧ ∃ i : Fin 8, s.port.slots[i] = none
    (standing → step s = .next s.quiet.acceptStanding) ∧
    (¬ standing → ∀ c, s.ownDueFirst c → step s = exec c s) ∧
    (¬ standing → (∀ n p c, ¬ s.ownDue n p c) → ∀ t, s.nextEdge = some t → step s = .next t) ∧
    (¬ standing → (∀ n p c, ¬ s.ownDue n p c) → s.nextEdge = none → step s = .next s.tick)

/-- One tick counts every timer that runs: response and fence timers, hold counts of WAITING transfers only, lock ages and
running close timers, each up to its limit (the hold at the limit is the model's choice, log 4). While RST_N is low only the
fence timers count (R143), and while PWRUP_N is low no timer does (R172). -/
def Obligations.TickCountsEveryTimer : Prop :=
  (∀ s : State, s.pins.pwrupLow = true → s.tick = s.quiet) ∧
  (∀ s : State, s.pins.pwrupLow = false → s.pins.rstLow = true →
    s.tick = s.quiet.withMem { s.quiet.mem with slots := s.tick.mem.slots } ∧
    (∀ k : Fin 12, ∀ n l, s.mem.slots[k] = .fenced n l → s.tick.mem.slots[k] = .fenced (min (n + 1) l) l) ∧
    ∀ k : Fin 12, s.mem.slots[k] = .free → s.tick.mem.slots[k] = .free) ∧
  ∀ s : State, s.resetHeld = false →
    (∀ k : Fin 12, s.mem.slots[k] = .free → s.tick.mem.slots[k] = .free) ∧
    (∀ k : Fin 12, ∀ q o n l, s.mem.slots[k] = .pending q o n l → s.tick.mem.slots[k] = .pending q o (min (n + 1) l) l) ∧
    (∀ k : Fin 12, ∀ n l, s.mem.slots[k] = .fenced n l → s.tick.mem.slots[k] = .fenced (min (n + 1) l) l) ∧
    (∀ i : Fin 8, ∀ t h, s.port.slots[i] = some t → t.hold = some h → t.phase = .waiting →
      s.tick.port.slots[i] = some { t with hold := some { h with count := min (h.count + 1) h.limit } }) ∧
    (∀ i : Fin 8, ∀ t, s.port.slots[i] = some t → t.phase ≠ .waiting → s.tick.port.slots[i] = some t) ∧
    (∀ j : Fin 4, ∀ l, s.locks[j] = some l → s.tick.locks[j] = some { l with age := min (l.age + 1) l.limit }) ∧
    (∀ e : SourceId, ∀ n, s.timing.sources[e].closeTimer = .running n → 1 < n.toNat →
      s.tick.timing.sources[e] = { s.timing.sources[e] with closeTimer := .running (n - 1) }) ∧
    (∀ e : SourceId, ∀ n, s.timing.sources[e].closeTimer = .running n → n.toNat ≤ 1 →
      s.tick.timing.sources[e] = { s.timing.sources[e] with closeTimer := .expiring }) ∧
    s.tick.windows = s.windows ∧ s.tick.groups = s.groups ∧ s.tick.carry = s.carry ∧ s.tick.events = s.events ∧
    s.tick.link = s.link ∧ s.tick.startUp = s.startUp ∧ s.tick.pins = s.pins ∧ s.tick.pending = s.pending

/-! ## What every step keeps -/

/-- The state after power-on reset (its pins are the model's choice, log 1) has every invariant below. -/
def Obligations.ResetStateHasEveryInvariant : Prop :=
  State.reset.Inv ∧ State.reset.countsExact ∧ State.reset.copiesExcludeWrites ∧ State.reset.events.consistent ∧
    State.reset.locksDistinct ∧ State.reset.demandBounded ∧ State.reset.link.limitsPositive ∧ State.reset.shareBounded ∧
    State.reset.holdsCounted ∧ State.reset.setsAscending ∧ State.reset.link.serialConsistent

/-- Every step keeps the promises of `State.Inv` together. -/
def Obligations.StepKeepsInvariants : Prop :=
  ∀ s t : State, s.Inv → step s = .next t → t.Inv

/-- R34: each live-read count keeps counting exactly the transfers of the table that were counted in its bank. -/
def Obligations.StepKeepsLiveReadCountsExact : Prop :=
  ∀ s t : State, s.countsExact → step s = .next t → t.countsExact

/-- R49: a line copy and an upstream write to either copy of the same line are never in flight together. -/
def Obligations.StepKeepsCopiesAndWritesApart : Prop :=
  ∀ s t : State, s.Inv → s.copiesExcludeWrites → step s = .next t → t.copiesExcludeWrites

/-- R145, R153, R154, R116, R37, R163, R135, R31, R107, R157: the event queue stays within 32 records with the unnamed
positions of its mask clear and IRQ_N at its condition; lock entries stay on distinct lines, the demand queue within 8
entries and without duplicates, the limits above 0, the share counter at most 4, the line sets in ascending order without
duplicates, the hold counts of transfers in WAITING within the limits they took, and the link below eight bits of a byte,
with MDO driven in read frames only. -/
def Obligations.StepKeepsTablesWithinBounds : Prop :=
  ∀ s t : State, step s = .next t →
    (s.events.consistent → t.events.consistent) ∧ (s.locksDistinct → t.locksDistinct) ∧
    (s.demandBounded → t.demandBounded) ∧ (s.link.limitsPositive → t.link.limitsPositive) ∧
    (s.shareBounded → t.shareBounded) ∧ (s.setsAscending → t.setsAscending) ∧ (s.holdsCounted → t.holdsCounted) ∧
    (s.link.serialConsistent → t.link.serialConsistent)

/-! ## The system port -/

/-- R99 to R104, R122: the checks at acceptance in their order, up to an answer that routing gives: the first that fails
gives the answer and its record, and nothing else changes. An UNLOCK_WRITE that claims its entry and that routing answers
frees the entry, but RETRY leaves it as it was, with no claim. -/
def Obligations.RefusedRequestsAreAnsweredInCheckOrder : Prop :=
  ∀ (s : State) (i : Fin 8) (r : Request), s.takes i →
    (s.bootInProgress = true → exec (.requestAcceptance r) s = .next (s.accepted.respond r .retry [])) ∧
    (s.bootInProgress = false → s.outstanding r = true →
      exec (.requestAcceptance r) s = .next (s.accepted.respond r .error [])) ∧
    (s.bootInProgress = false → s.outstanding r = false → r.aligned = false →
      exec (.requestAcceptance r) s = .next ((s.accepted.record (.align r.master r.address)).respond r .error [])) ∧
    (s.passesPortChecks r → ∀ w, s.place r.address = .twin w →
      exec (.requestAcceptance r) s =
        .next ((s.accepted.record (.twinAccess r.master r.address w)).respond r .error [])) ∧
    (s.passesPortChecks r → s.passesTwinTest r → s.lockTest r = .retry →
      exec (.requestAcceptance r) s = .next (s.accepted.respond r .retry [])) ∧
    (s.passesPortChecks r → s.passesTwinTest r → s.lockTest r = .orphan →
      exec (.requestAcceptance r) s =
        .next ((s.accepted.record (.unlockOrphan r.master r.address)).respond r .error [])) ∧
    (s.passesPortChecks r → s.passesTwinTest r → s.lockTest r = .routed → r.kind ≠ .unlockWrite →
      ∀ st x, s.routing r s.port.nextAcceptance = .answer st x →
        exec (.requestAcceptance r) s = .next ((s.accepted.recordAll x).respond r st [])) ∧
    (s.passesPortChecks r → s.passesTwinTest r → s.locksDistinct → ∀ j l, s.lockTest r = .claims j l →
      ∀ st x, s.routing r s.port.nextAcceptance = .answer st x →
        (st = .retry → l.claim = none ∧ s.locks[j] = some l ∧
          exec (.requestAcceptance r) s = .next ((s.accepted.recordAll x).respond r .retry [])) ∧
        (st ≠ .retry →
          exec (.requestAcceptance r) s = .next (((s.accepted.recordAll x).respond r st []).setLock j none)))

/-- R97, R113, R115: with every slot occupied or a reset held, a request is not accepted and stays offered, behind those
that stand offered already (the order is the model's choice, log 7). Otherwise what stands offered is accepted, oldest
first, each into the first free slot (log 24). Every other command does what it does with nothing offered and ends with
that, so a slot it frees, or a port it opens, takes the request that stands offered in the same event. -/
def Obligations.OfferedRequestsAreAcceptedAsSlotsFree : Prop :=
  (∀ (s : State) (r : Request),
    ((s.resetHeld = true ∨ ∀ i : Fin 8, s.port.slots[i] ≠ none) → exec (.requestAcceptance r) s =
      .next (s.quiet.withPort { s.quiet.port with offered := s.port.offered ++ [r] })) ∧
    (∀ i : Fin 8, s.takes i → exec (.requestAcceptance r) s = .next (s.quiet.accept i r))) ∧
  (∀ s : State,
    ((s.resetHeld = true ∨ s.port.offered = [] ∨ ∀ i : Fin 8, s.port.slots[i] ≠ none) → s.acceptStanding = s) ∧
    (∀ (i : Fin 8) (r : Request) (rest : List Request), s.resetHeld = false → s.port.offered = r :: rest →
      s.port.slots[i] = none → (∀ j : Fin 8, j < i → s.port.slots[j] ≠ none) →
        s.acceptStanding = ((s.withPort { s.port with offered := rest }).accept i r).acceptStanding)) ∧
  ∀ (c : Instr) (s : State), s.Inv → (∀ r, c ≠ .requestAcceptance r) →
    ∃ t, exec c (s.withPort { s.port with offered := [] }) = .next t ∧
      exec c s = .next (t.withPort { t.port with offered := s.port.offered }).acceptStanding

/-- R7, R117 to R121, R123: checks 4 and 5. Only windows that are not DISABLED take part, and an address in ranges of two
windows belongs to the lowest number; what the interlock unit gives a transfer follows the entry that covers its line, where
no two entries are on one line. -/
def Obligations.PlaceAndInterlockTestsFollowTables : Prop :=
  (∀ (s : State) (a : Address),
    (s.place a = .miss ↔ ∀ w : WindowId, s.windows[w].state = .disabled ∨ s.windows[w].inRanges a = false) ∧
    (∀ w : WindowId, (s.place a = .home w ∨ s.place a = .twin w) ↔
      s.windows[w].state ≠ .disabled ∧ s.windows[w].inRanges a = true ∧
        ∀ v : WindowId, v < w → s.windows[v].state = .disabled ∨ s.windows[v].inRanges a = false) ∧
    (∀ w : WindowId, s.place a = .home w → s.windows[w].inHome a = true) ∧
    (∀ w : WindowId, s.place a = .twin w → s.windows[w].inHome a = false ∧ s.windows[w].inTwin a = true)) ∧
  ∀ (s : State) (r : Request), s.locksDistinct →
    (∀ (j : Fin 4) (l : Lock), s.locks[j] = some l → l.line = lineOfAddress r.address →
      (l.master ≠ r.master → s.lockTest r = .retry) ∧
      (l.master = r.master → r.kind ≠ .unlockWrite → s.lockTest r = .routed) ∧
      (l.master = r.master → r.kind = .unlockWrite → l.claim = none → s.lockTest r = .claims j l) ∧
      (l.master = r.master → r.kind = .unlockWrite → l.claim ≠ none → s.lockTest r = .orphan)) ∧
    ((∀ j : Fin 4, ∀ l ∈ s.locks[j], l.line ≠ lineOfAddress r.address) →
      (r.kind = .read ∨ r.kind = .write → s.lockTest r = .routed) ∧
      (r.kind = .unlockWrite → s.lockTest r = .orphan) ∧
      (r.kind = .lockedRead → (∀ j : Fin 4, s.locks[j] ≠ none) → s.lockTest r = .retry) ∧
      (r.kind = .lockedRead → (∃ j : Fin 4, s.locks[j] = none) → s.lockTest r = .routed))

/-- R6, R10 to R20, R61: a master is a producer in a window exactly when it is in the producer set of the group that the
window's group field names, and else a consumer; and the route of each access class in each window state, where routing
keeps the transfer or answers it. A producer write to a SEEDING or ACTIVE window is a trigger write of the window's group
exactly where that group's trigger names the window and a beat with an enabled lane lies at the trigger word; no other
transfer has a match. R37, R38: it is answered RETRY exactly where it needs a demand entry (its line is in the carry set, no
copy of the line is in flight and it is no whole-line write), the queue holds 8 entries, and none of them is for its line. -/
def Obligations.RoutingFollowsStateAndRole : Prop :=
  ∀ (s : State) (r : Request) (n : Nat) (w : WindowId),
    let x := s.windows[w]
    let live := x.copyAddress x.live r.address
    let shadow := x.copyAddress x.shadow r.address
    let readAt := fun a : Address => if r.kind.isWrite then none else some a
    let role := s.roleIn w r.master
    let stale := x.carry.contains (x.lineIndex r.address)
    (role = .producer ↔ s.groups[x.group].producers.getLsbD r.master.val = true) ∧
    (role = .consumer ↔ s.groups[x.group].producers.getLsbD r.master.val = false) ∧
    (s.place r.address = .miss →
      s.routing r n = .keep (keptTransfer r n none none .passThrough (readAt r.address))) ∧
    (s.place r.address = .home w →
      (x.state = .suspended → s.routing r n = .keep (keptTransfer r n (some w) (some role) .liveBank (readAt live))) ∧
      (x.state = .homing → r.kind.isWrite = true → s.routing r n = .answer .retry none) ∧
      (x.state = .faulted → r.kind.isWrite = true → s.routing r n = .answer .error none) ∧
      (x.state = .homing ∨ x.state = .faulted → r.kind.isWrite = false →
        s.routing r n = .keep (keptTransfer r n (some w) (some role) .liveBank (some live))) ∧
      (x.state = .seeding ∨ x.state = .active →
        (role = .consumer → r.kind = .lockedRead → x.policy = .error → s.routing r n = .answer .error none) ∧
        (role = .consumer → r.kind = .read ∨ r.kind = .lockedRead ∧ x.policy ≠ .error →
          s.routing r n = .keep { keptTransfer r n (some w) (some .consumer) .liveBank (some live) with
            countedBank := some x.live }) ∧
        (role = .producer → r.kind.isWrite = false → stale = true →
          s.routing r n = .keep (keptTransfer r n (some w) (some .producer) .liveBank (some live))) ∧
        (role = .producer → r.kind.isWrite = false → stale = false →
          s.routing r n = .keep (keptTransfer r n (some w) (some .producer) .shadowBank (some shadow))) ∧
        (role = .consumer → r.kind.isWrite = true → x.policy = .error →
          s.routing r n = .answer .error (some (.foreignWrite r.master r.address w))) ∧
        (role = .consumer → r.kind.isWrite = true → x.policy = .drop →
          s.routing r n = .answer .okay (some (.foreignWrite r.master r.address w))) ∧
        (role = .consumer → r.kind.isWrite = true → x.policy = .both →
          s.routing r n = .keep (keptTransfer r n (some w) (some .consumer) .bothBanks none)) ∧
        (role = .producer → r.kind.isWrite = true →
          let u := { keptTransfer r n (some w) (some .producer) .shadowBank none with triggerMatch := s.triggerMatch w r }
          (∀ g : GroupId, s.triggerMatch w r = some g ↔ x.group = g ∧ ∃ v ∈ s.groups[g].trigger, v.window = w ∧
            ∃ j, j < r.beats ∧ r.address + BitVec.ofNat 32 (8 * j) = x.base + BitVec.ofNat 32 (8 * v.offset) ∧
              r.lanes.getD j 0 ≠ 0) ∧
          let full := s.needsEntry u w ∧ 8 ≤ s.carry.demand.length ∧ s.entryFor u w ∉ s.carry.demand
          (full → s.routing r n = .answer .retry none) ∧ (¬ full → s.routing r n = .keep u))))

/-- R97, R98, R103, R11, R121: a request that routing keeps, a claiming UNLOCK_WRITE too, is in the table after its
acceptance, in the first free slot (the model's choice among several, log 24), with the values routing fixed and the phase
its waits give; a counted read raises the count of its bank by one, and a claim records its tag in its entry; nothing is
answered and nothing recorded. A partial write to a stale line makes its demand entry at the tail, or joins the one the
queue holds (R37, where no other transfer is in the table to make one too). -/
def Obligations.KeptRequestEntersTable : Prop :=
  ∀ (s : State) (i : Fin 8) (r : Request) (u : Transfer), s.takes i → s.passesPortChecks r → s.passesTwinTest r →
    (s.lockTest r = .routed ∨ ∃ j l, s.lockTest r = .claims j l) → s.routing r s.port.nextAcceptance = .keep u →
      ∃ t v, exec (.requestAcceptance r) s = .next t ∧ t.port.slots[i] = some v ∧
        v = { u with phase := v.phase, hold := v.hold } ∧ (v.phase = .ready ↔ t.waits v = []) ∧
        (v.phase = .ready → v.hold = none) ∧
        (v.phase = .waiting → v.hold = some { count := 0, limit := s.link.holdLimit.toNat }) ∧
        (u.countedBank = none → t.windows = s.windows) ∧
        (∀ w b, u.window = some w → u.countedBank = some b →
          t.windows = s.windows.set w (s.windows[w].withLiveReads b (s.windows[w].liveReads b + 1))) ∧
        s.keepsTransfersBut t (· = i) ∧ t.port.nextAcceptance = s.port.nextAcceptance + 1 ∧ t.port.offered = [] ∧
        t.port.responses = [] ∧ t.events = s.events ∧ t.groups = s.groups ∧ t.timing = s.timing ∧
        t.mem = s.quiet.mem ∧ t.link = s.link ∧ t.carry.copiers = s.carry.copiers ∧
        s.carry.demand <+: t.carry.demand ∧
        (∀ w, (∀ j : Fin 8, s.port.slots[j] = none) → s.needsEntry u w →
          v.phase = .waiting ∧ t.carry.demand =
            if s.entryFor u w ∈ s.carry.demand then s.carry.demand else s.carry.demand ++ [s.entryFor u w]) ∧
        (s.lockTest r = .routed → r.kind ≠ .lockedRead → t.locks = s.locks) ∧
        (∀ j l, s.lockTest r = .claims j l → t.locks = s.locks.set j (some { l with claim := some r.tag })) ∧
        t.startUp = s.startUp ∧ t.pins = s.pins

/-- R107 with R50, R35, R16, R37, R38, R52 and R106: when each wait of a transfer holds. A copy in flight holds every write
that would reach its source or destination; the drain holds a producer write, and a BOTH write whose line is outside the
carry set; a producer write that is no whole-line write waits on its line in the carry set, behind its demand entry, or,
after a test that finds no entry and eight others, for room; an older transfer not yet issued holds a younger one with a
target line in common, but for a counted read behind a write to a bank that has become shadow. The target of a BOTH transfer
whose shadow write is not yet issued is log 20's reading. A whole-line write is a WRITE of 8 beats at a line start with every
lane enabled (R94). -/
def Obligations.EachWaitHoldsByItsRule : Prop :=
  (∀ (s : State) (t : Transfer),
    let held := fun w : WindowId => t.window = some w ∧ t.request.kind.isWrite = true
    let stale := fun w : WindowId => s.windows[w].carry.contains (s.windows[w].lineIndex t.request.address) = true
    (.copyInFlight ∈ s.waits t ↔ t.request.kind.isWrite = true ∧ s.copyReaches t) ∧
    (.drain ∈ s.waits t ↔ ∃ w, held w ∧ s.windows[w].liveReads s.windows[w].live.other ≠ 0 ∧
      (t.route = .shadowBank ∨ t.route = .bothBanks ∧ ¬ stale w)) ∧
    (.demandLine ∈ s.waits t ↔ ∃ w, s.needsEntry t w ∧ s.entryFor t w ∈ s.carry.demand) ∧
    (.demandRoom ∈ s.waits t ↔ ∃ w, s.needsEntry t w ∧ s.entryFor t w ∉ s.carry.demand) ∧
    (.issueOrder ∈ s.waits t ↔ ∃ i : Fin 8, ∃ o, s.port.slots[i] = some o ∧ o.acceptance < t.acceptance ∧
      (∃ l ∈ s.targetLines o, l ∈ s.targetLines t) ∧
      ¬ (o.request.kind.isWrite = true ∧ ∃ w, t.window = some w ∧ t.countedBank = some s.windows[w].live.other))) ∧
  (∀ (s : State) (t : Transfer),
    (∀ a, t.phase ≠ .issued → t.readAddress = some a → s.targetLines t = [lineOfAddress a]) ∧
    (t.phase ≠ .issued → t.readAddress = none → s.targetLines t = s.writeTargets t) ∧
    (∀ b a, t.phase = .issued → t.shadow = .presented b a → s.targetLines t = t.issuedLines) ∧
    (t.phase = .issued → (∀ b a, t.shadow ≠ .presented b a) → s.targetLines t = []) ∧
    (t.window = none → s.writeTargets t = [lineOfAddress t.request.address]) ∧
    (∀ w, t.window = some w →
      let at_ := fun b : Bank => lineOfAddress (s.windows[w].bankBase b + (t.request.address - s.windows[w].base))
      let live := s.windows[w].live
      (t.route = .liveBank → s.writeTargets t = [at_ live]) ∧
      (t.route = .shadowBank → s.writeTargets t = [at_ live.other]) ∧
      (t.route = .bothBanks → s.writeTargets t = [at_ live, at_ live.other]))) ∧
  (∀ r : Request, r.wholeLine = true ↔
    r.kind = .write ∧ r.beats = 8 ∧ r.address.toNat % 64 = 0 ∧ r.lanes = List.replicate 8 0xFF) ∧
  ∀ (s : State) (i : Fin 8) (t : Transfer), s.retest.port.slots[i] = some t → t.phase ≠ .issued →
    (t.phase = .ready ↔ s.retest.waits t = []) ∧
    (.demandRoom ∈ s.retest.waits t → 8 ≤ s.retest.carry.demand.length)

/-- R14, R15: a consumer write to a SEEDING or ACTIVE window is answered ERROR under policy ERROR and OKAY under DROP, with no
memory access, and FOREIGN_WRITE is recorded; nothing else changes. An UNLOCK_WRITE that claims its entry also frees it. -/
def Obligations.ForeignWriteIsRefusedOrDropped : Prop :=
  ∀ (s : State) (i : Fin 8) (r : Request) (w : WindowId) (st : Status), s.takes i → s.passesPortChecks r →
    s.place r.address = .home w → s.windows[w].state.servesTwo = true → s.roleIn w r.master = .consumer →
    (s.windows[w].policy = .error ∧ st = .error ∨ s.windows[w].policy = .drop ∧ st = .okay) →
      (r.kind = .write → s.lockTest r = .routed →
        exec (.requestAcceptance r) s =
          .next ((s.accepted.record (.foreignWrite r.master r.address w)).respond r st [])) ∧
      (∀ j l, r.kind = .unlockWrite → s.locksDistinct → s.lockTest r = .claims j l →
        exec (.requestAcceptance r) s =
          .next (((s.accepted.record (.foreignWrite r.master r.address w)).respond r st []).setLock j none))

/-- R119, R120, R121: a kept LOCKED_READ of a line no entry covers makes an entry in the first free place (the model's choice
among several, log 24); one of a line its
master already locks makes none; a kept UNLOCK_WRITE that matches records its tag as the entry's claim. -/
def Obligations.LockedPairTakesAndClaimsEntry : Prop :=
  ∀ (s : State) (i : Fin 8) (r : Request) (u : Transfer), s.takes i → s.passesPortChecks r → s.passesTwinTest r →
    s.routing r s.port.nextAcceptance = .keep u →
      (∀ j : Fin 4, r.kind = .lockedRead → (∀ k : Fin 4, ∀ l ∈ s.locks[k], l.line ≠ lineOfAddress r.address) →
        s.locks[j] = none → (∀ k : Fin 4, k < j → s.locks[k] ≠ none) →
          ∃ t, exec (.requestAcceptance r) s = .next t ∧
            t.locks = s.locks.set j (some
              { master := r.master
                line := lineOfAddress r.address
                limit := s.link.lockLimit.toNat
                age := 0
                claim := none })) ∧
      (∀ (j : Fin 4) (l : Lock), r.kind = .lockedRead → s.locksDistinct → s.locks[j] = some l →
        l.line = lineOfAddress r.address → l.master = r.master →
          ∃ t, exec (.requestAcceptance r) s = .next t ∧ t.locks = s.locks) ∧
      (∀ j l, s.lockTest r = .claims j l →
        ∃ t, exec (.requestAcceptance r) s = .next t ∧ t.locks = s.locks.set j (some { l with claim := some r.tag }))

/-- R95, R97, R34, R122, R60, R62: what giving an answer sets in motion: the slot is freed, the response is given with the
data of its status, a counted read leaves its count, an UNLOCK_WRITE settles the entry it claimed, and a trigger write
answered OKAY arms its group if it is OPEN, changes nothing of it if it is ARMED, and is refused with ARM_REFUSED if it is
BLOCKED. -/
def Obligations.AnswerSetsItsEffectsInMotion : Prop :=
  ∀ (s : State) (i : Fin 8) (t : Transfer) (st : Status) (data : List Beat), s.port.slots[i] = some t →
    (s.answer i st data).port.slots = s.port.slots.set i none ∧
    (s.answer i st data).port.responses = s.port.responses ++ [
      { master := t.request.master
        tag := t.request.tag
        status := st
        data := if t.request.kind.isWrite then [] else if st = .okay then data
          else List.replicate t.request.beats 0 }] ∧
    (s.answer i st data).windows = (match t.window, t.countedBank with
      | some w, some b => s.windows.set w (s.windows[w].withLiveReads b (s.windows[w].liveReads b - 1))
      | _, _ => s.windows) ∧
    s.settlesClaimOf (s.answer i st data) t.request st ∧ s.armsByAnswer (s.answer i st data) s.events t st

/-- R108, R122: a WAITING transfer whose hold count has reached its limit is answered RETRY, HOLD_EXPIRED is recorded, its
slot is freed and a counted read leaves its count (so too where the transfer has just returned to WAITING with its count at
the limit: the model's choice, log 4); no line set changes, every demand entry stays, a trigger write arms nothing, and an
UNLOCK_WRITE leaves the entry it claimed, without the claim. R125: a lock entry whose age has reached its limit is freed and
LOCK_BROKEN is recorded; nothing else changes. -/
def Obligations.HoldAndLockLimitsExpire : Prop :=
  (∀ (s : State) (i : Fin 8) (t : Transfer) (h : HoldCount), s.port.slots[i] = some t → t.phase = .waiting →
    t.hold = some h → h.limit ≤ h.count → s.port.offered = [] →
      ∃ u, exec (.holdLimitExpiry i) s = .next u ∧
        s.endsTransfer u i t .retry [] (s.events.append (.holdExpired t.request.master t.request.address t.window)) ∧
        u.mem = s.quiet.mem) ∧
  ∀ (s : State) (j : Fin 4) (l : Lock), s.locks[j] = some l → l.limit ≤ l.age →
    exec (.lockLimitExpiry j) s =
      .next { s.quiet with locks := s.locks.set j none, events := s.events.append (.lockBroken l.master l.line) }

/-! ## The memory port -/

/-- R134, R135: the classes in their order; with the share counter at 4 an ordinary copy stands above upstream; the counter
counts upstream grants made while an ordinary copy is eligible. With no FREE slot or no eligible request nothing is granted.
R44, R74, R136: a copy of origin DEMAND is a demand copy; a background copy is urgent exactly while its window's group is
ARMED and the group's source is CLOSED, and ordinary otherwise. -/
def Obligations.GrantDecisionFollowsClassesAndShare : Prop :=
  ∀ s : State,
    ((∀ k : Fin 12, s.mem.slots[k] ≠ .free) ∨ s.chooseRequest = none → exec .memGrant s = .next s.quiet) ∧
    (∀ o, s.chooseBoot = some o → s.chooseRequest = some (.boot, o)) ∧
    (s.chooseBoot = none →
      (∀ o, s.chooseCopy .demandCopy = some o → s.chooseRequest = some (.demandCopy, o)) ∧
      (s.chooseCopy .demandCopy = none →
        (∀ o, s.chooseCopy .urgentCopy = some o → s.chooseRequest = some (.urgentCopy, o)) ∧
        (s.chooseCopy .urgentCopy = none →
          (∀ o, s.chooseUpstream = some o → (s.mem.share ≠ 4 ∨ s.chooseCopy .ordinaryCopy = none) →
            s.chooseRequest = some (.upstream, o)) ∧
          (∀ o, s.chooseCopy .ordinaryCopy = some o → (s.mem.share = 4 ∨ s.chooseUpstream = none) →
            s.chooseRequest = some (.ordinaryCopy, o)) ∧
          (s.chooseUpstream = none → s.chooseCopy .ordinaryCopy = none → s.chooseRequest = none)))) ∧
    s.shareAfter .upstream = (if s.chooseCopy .ordinaryCopy = none then 0 else min (s.mem.share + 1) 4) ∧
    s.shareAfter .ordinaryCopy = 0 ∧ s.shareAfter .boot = s.mem.share ∧ s.shareAfter .demandCopy = s.mem.share ∧
    s.shareAfter .urgentCopy = s.mem.share ∧
    (∀ k : CopyRecord, k.origin = .demand → s.copyClass k = .demandCopy) ∧
    (∀ k : CopyRecord, k.origin = .background →
      let g := s.groups[s.windows[k.window].group]
      (g.state.isArmed = true ∧ s.timing.sources[g.source].phase = .closed → s.copyClass k = .urgentCopy) ∧
      (g.state.isArmed = false ∨ s.timing.sources[g.source].phase = .opened → s.copyClass k = .ordinaryCopy))

/-- R134, R131, R105, R35, R44: a copier presents its copy's request, in the class the copy has, until it is granted, and a
transfer its first request while it is READY. Within the upstream class the lowest acceptance number, within a class of
copies the copy taken first; the shadow write of a BOTH transfer is passed over exactly while its bank is its window's
shadow bank with a nonzero live-read count. -/
def Obligations.ArbiterTakesOldestOfClass : Prop :=
  ∀ s : State,
    (∀ cls c k, s.presentedCopy cls c = some k ↔
      s.carry.copiers[c] = .busy k ∧ k.granted = false ∧ s.copyClass k = cls) ∧
    (∀ t : Transfer, (t.phase = .ready → s.presentedPart t = some .first) ∧
      (t.phase = .waiting → s.presentedPart t = none) ∧
      (t.phase = .issued → (∀ b a, t.shadow ≠ .presented b a) → s.presentedPart t = none)) ∧
    (∀ i part, s.chooseUpstream = some (.transfer i part) →
      ∃ u, s.port.slots[i] = some u ∧ s.presentedPart u = some part ∧
        ∀ j : Fin 8, ∀ v ∈ s.port.slots[j], s.presentedPart v ≠ none → u.acceptance ≤ v.acceptance) ∧
    (s.chooseUpstream = none ↔ ∀ j : Fin 8, ∀ v ∈ s.port.slots[j], s.presentedPart v = none) ∧
    (∀ cls c, s.chooseCopy cls = some (.copier c) →
      ∃ k, s.presentedCopy cls c = some k ∧ ∀ d j, s.presentedCopy cls d = some j → k.taken ≤ j.taken) ∧
    (∀ cls, s.chooseCopy cls = none ↔ ∀ c, s.presentedCopy cls c = none) ∧
    (∀ (t : Transfer) (w : WindowId) (b : Bank) (a : Address), t.phase = .issued → t.window = some w →
      t.shadow = .presented b a →
        (s.windows[w].shadow = b → s.windows[w].liveReads b ≠ 0 → s.presentedPart t = none) ∧
        (s.windows[w].shadow ≠ b ∨ s.windows[w].liveReads b = 0 → s.presentedPart t = some .shadow))

/-- R133, R105, R9, R130, R16: the grant of a transfer's first request, at the physical address its route gives. A BOTH
transfer whose line is outside the carry set at its issue presents its shadow write, to the bank that is shadow now; every
other transfer has none. Where the transfer is not a producer write, no window changes. -/
def Obligations.GrantIssuesUpstreamRequest : Prop :=
  ∀ (s : State) (k : Fin 12) (i : Fin 8) (cls : RequestClass) (u : Transfer) (a : Address), s.firstFreeMemSlot k →
    s.chooseRequest = some (cls, .transfer i .first) → s.port.slots[i] = some u →
    (u.readAddress = some a ∨
      u.readAddress = none ∧ u.window = none ∧ a = u.request.address ∨
      ∃ w : WindowId, u.readAddress = none ∧ u.window = some w ∧ u.route ≠ .passThrough ∧
        a = s.windows[w].bankBase (if u.route = .shadowBank then s.windows[w].live.other else s.windows[w].live)
          + (u.request.address - s.windows[w].base)) →
      ∃ t m, exec .memGrant s = .next t ∧
        t.mem.slots =
          s.mem.slots.set k (.pending (transferRequest u a) (.transfer i .first) 0 s.link.memoryLimit.toNat) ∧
        t.mem.presented = some (k, transferRequest u a) ∧ t.mem.share = s.shareAfter cls ∧
        t.port.slots[i] = some { u with
          phase := .issued
          hold := none
          first := .outstanding a
          shadow := m } ∧
        (u.route ≠ .bothBanks ∨ u.window = none → m = .absent) ∧
        (∀ w : WindowId, u.route = .bothBanks → u.window = some w →
          m = if s.windows[w].carry.contains (s.windows[w].lineIndex u.request.address) then .absent
            else .presented s.windows[w].live.other
              (s.windows[w].bankBase s.windows[w].live.other + (u.request.address - s.windows[w].base))) ∧
        s.keepsTransfersBut t (· = i) ∧ t.port.responses = [] ∧
        (u.route ≠ .shadowBank ∨ u.request.kind.isWrite = false →
          t.windows = s.windows ∧ t.events = s.events ∧ t.groups = s.groups) ∧
        t.carry.copiers = s.carry.copiers ∧ t.timing = s.timing ∧ t.locks = s.locks ∧ t.link = s.link ∧
        t.startUp = s.startUp ∧ t.pins = s.pins

/-- R13, R32, R52, R25, R79: at the grant of a producer write its line joins the dirty set; a whole-line write to a line in
the carry set takes the line out of the carry set and its entry out of the demand queue; a carry set that this empties ends
SEEDING with SEED_DONE (and would end HOMING with HOME_DONE), and a rollback that it completes has its ROLLBACK_DONE; other
windows do not change. -/
def Obligations.ProducerWriteStagesItsLineAtIssue : Prop :=
  ∀ (s : State) (k : Fin 12) (i : Fin 8) (cls : RequestClass) (u : Transfer) (w : WindowId), s.firstFreeMemSlot k →
    s.chooseRequest = some (cls, .transfer i .first) → s.port.slots[i] = some u → u.route = .shadowBank →
    u.window = some w → u.request.kind.isWrite = true →
      let x := s.windows[w]
      let line := x.lineIndex u.request.address
      let rest := LineSet.remove line x.carry
      let dirty := LineSet.insert line x.dirty
      ∃ t, exec .memGrant s = .next t ∧
        (∀ y, y ∈ dirty ↔ y = line ∨ y ∈ x.dirty) ∧ (∀ y, y ∈ rest ↔ y ∈ x.carry ∧ y ≠ line) ∧
        (x.carry.contains line = true → u.request.wholeLine = true →
          ({ window := w, line := line } : DemandEntry) ∉ t.carry.demand ∧
          (rest ≠ [] ∨ x.state ≠ .seeding ∧ x.state ≠ .homing →
            t.windows[w] = { x with carry := rest, dirty := dirty } ∧ t.rollbacksEnd s.groups s.events) ∧
          (rest = [] → x.state = .seeding →
            t.windows[w] = { x with carry := [], dirty := dirty, state := .active } ∧
            t.rollbacksEnd s.groups (s.events.append (.seedDone w))) ∧
          (rest = [] → x.state = .homing →
            t.windows[w] = { x with carry := [], dirty := dirty, state := .disabled, live := .bank0 } ∧
            t.rollbacksEnd s.groups (s.events.append (.homeDone w)))) ∧
        (x.carry.contains line = false ∨ u.request.wholeLine = false →
          t.windows[w] = { x with dirty := dirty } ∧ t.events = s.events ∧ t.groups = s.groups) ∧
        ∀ v : WindowId, v ≠ w → t.windows[v] = s.windows[v]

/-- R130, R43, R45, R16, R105, R174: the grant of a copier's request, a READ of 8 beats at the source or a WRITE of the
buffer with all lanes enabled at the destination; of a BOTH transfer's shadow write; and of the start-up controller's
read. -/
def Obligations.GrantIssuesCopyShadowAndBootRequests : Prop :=
  ∀ (s : State) (k : Fin 12) (cls : RequestClass), s.firstFreeMemSlot k →
    (∀ (c : Fin 2) (r : CopyRecord), s.chooseRequest = some (cls, .copier c) → s.carry.copiers[c] = .busy r →
      let q : MemRequest := match r.phase with
        | .reading => { kind := .read, address := r.source, beats := 8, data := [], lanes := [] }
        | .writing =>
          { kind := .write, address := r.destination, beats := 8, data := r.buffer, lanes := List.replicate 8 0xFF }
      ∃ t, exec .memGrant s = .next t ∧
        t.mem.slots = s.mem.slots.set k (.pending q (.copier c) 0 s.link.memoryLimit.toNat) ∧
        t.mem.presented = some (k, q) ∧ t.mem.share = s.shareAfter cls ∧
        t.carry.copiers = s.carry.copiers.set c (.busy { r with granted := true }) ∧
        s.keepsTransfersBut t (fun _ => False) ∧ t.port.responses = [] ∧ s.keepsOtherBlocks t) ∧
    (∀ (i : Fin 8) (u : Transfer) (b : Bank) (a : Address), s.chooseRequest = some (cls, .transfer i .shadow) →
      s.port.slots[i] = some u → u.phase = .issued → u.shadow = .presented b a →
        ∃ t, exec .memGrant s = .next t ∧ t.port.slots[i] = some { u with shadow := .outstanding a } ∧
          t.mem.slots = s.mem.slots.set k
            (.pending (transferRequest u a) (.transfer i .shadow) 0 s.link.memoryLimit.toNat) ∧
          t.mem.presented = some (k, transferRequest u a) ∧ t.mem.share = s.shareAfter cls ∧
          s.keepsTransfersBut t (· = i) ∧ t.port.responses = [] ∧ t.carry.copiers = s.carry.copiers ∧
          s.keepsOtherBlocks t) ∧
    (∀ r, s.chooseRequest = some (cls, .startUp) → s.startUp.read = some r →
        let q : MemRequest := { kind := .read, address := r.address, beats := r.beats, data := [], lanes := [] }
        ∃ t, exec .memGrant s = .next t ∧ t.startUp = { s.startUp with read := some { r with granted := true } } ∧
          t.mem.slots = s.mem.slots.set k (.pending q .startUp 0 s.link.memoryLimit.toNat) ∧
          t.mem.presented = some (k, q) ∧ t.mem.share = s.shareAfter cls ∧ t.windows = s.windows ∧
          t.events = s.events ∧ t.carry.copiers = s.carry.copiers)

/-- R138, R140: a response whose identifier names a FENCED slot is discarded and frees the slot, as does the fence timer
that has reached its limit; a response that names a FREE slot is discarded. Nothing else changes. -/
def Obligations.FencedSlotsEndQuietly : Prop :=
  ∀ (s : State) (k : Fin 12) (st : MemStatus) (data : List Beat),
    (∀ n l, s.mem.slots[k] = .fenced n l →
      exec (.memResponse k st data) s = .next (s.quiet.setMemSlot k .free)) ∧
    (∀ n l, s.mem.slots[k] = .fenced n l → l ≤ n → exec (.fenceEnd k) s = .next (s.quiet.setMemSlot k .free)) ∧
    (s.mem.slots[k] = .free → exec (.memResponse k st data) s = .next s.quiet)

/-- R137, R110 to R112, R34, R60, R62, R122: the response to the one request of a transfer frees the memory slot and ends the
transfer: its status is the response's, a read answered OKAY carries the beats returned (a beat the response does not carry
is a free value, log 14), any other answer to a read zeros, and a write none. A counted read leaves its count, an
UNLOCK_WRITE frees the entry it claimed, and a trigger write answered OKAY arms its group if it is OPEN, changes nothing if
it is ARMED, and is refused with ARM_REFUSED if it is BLOCKED. -/
def Obligations.MemoryResponseEndsTransfer : Prop :=
  ∀ (s : State) (k : Fin 12) (i : Fin 8) (n l : Nat) (u : Transfer) (a : Address) (st : MemStatus) (data : List Beat),
    s.mem.slots[k] = .pending (transferRequest u a) (.transfer i .first) n l → s.port.slots[i] = some u →
    u.phase = .issued → u.first = .outstanding a → u.shadow = .absent → s.port.offered = [] →
      ∃ t, exec (.memResponse k st data) s = .next t ∧ t.mem.slots = s.mem.slots.set k .free ∧
        t.mem.presented = none ∧
        s.endsTransfer t i u (if st = .okay then .okay else .error)
          ((List.range u.request.beats).map fun j => data.getD j (Config.freeBeat s.freeUses j)) s.events

/-- R16, R112, R139, R141, R60, R62, R122: a transfer with a live and a shadow write is held until both have their results,
whichever comes first, by a response or by a timeout; it is then answered OKAY when both were, else ERROR. The answer frees
the entry that an UNLOCK_WRITE claimed, and an OKAY answer to a write with a trigger match arms its group if it is OPEN,
changes nothing if it is ARMED, and is refused with ARM_REFUSED if it is BLOCKED. -/
def Obligations.BothTransferWaitsForBothResults : Prop :=
  ∀ (s : State) (k : Fin 12) (i : Fin 8) (n l : Nat) (u : Transfer) (q : MemRequest) (a : Address) (part : TransferPart)
    (c : Instr) (ok : Bool) (slot : MemSlot) (e : EventQueue), s.port.slots[i] = some u → u.phase = .issued →
    u.request.kind.isWrite = true → q.kind = .write → s.mem.slots[k] = .pending q (.transfer i part) n l →
    s.port.offered = [] →
    ((∃ st data, c = .memResponse k st data ∧ ok = decide (st = .okay) ∧ slot = .free ∧ e = s.events) ∨
      c = .memTimeout k ∧ l ≤ n ∧ ok = false ∧ slot = .fenced 0 s.link.memoryLimit.toNat ∧
        e = s.events.append (.memTimeout q.address u.window)) →
      let mine := match part with
        | .first => u.first
        | .shadow => u.shadow
      let other := match part with
        | .first => u.shadow
        | .shadow => u.first
      mine = .outstanding a →
        (other.done = false →
          ∃ t, exec c s = .next t ∧ t.mem.slots = s.mem.slots.set k slot ∧
            t.port.slots[i] = some (match part with
              | .first => { u with first := .answered a ok }
              | .shadow => { u with shadow := .answered a ok }) ∧
            s.keepsTransfersBut t (· = i) ∧ t.port.responses = [] ∧ t.windows = s.windows ∧ t.events = e ∧
            t.groups = s.groups ∧ t.locks = s.locks ∧ t.carry.copiers = s.carry.copiers ∧
            s.carry.demand <+: t.carry.demand ∧ t.timing = s.timing ∧ t.link = s.link ∧ t.startUp = s.startUp ∧
            t.pins = s.pins) ∧
        (∀ b ok', other = .answered b ok' →
          ∃ t, exec c s = .next t ∧ t.mem.slots = s.mem.slots.set k slot ∧
            s.endsTransfer t i u (if ok = true ∧ ok' = true then .okay else .error) [] e)

/-- R45, R48: the OKAY response to the read of an owned copy fills the line buffer and presents the copy write; a response
to a disowned copy frees its copier and touches no set, no entry and no window, whatever its status. -/
def Obligations.CopyReadFillsBufferUnlessDisowned : Prop :=
  ∀ (s : State) (k : Fin 12) (c : Fin 2) (q : MemRequest) (n l : Nat) (r : CopyRecord) (data : List Beat),
    s.mem.slots[k] = .pending q (.copier c) n l → s.carry.copiers[c] = .busy r → s.port.offered = [] →
      (r.owned = true → r.phase = .reading → q.kind = .read → data.length = q.beats →
        ∃ t, exec (.memResponse k .okay data) s = .next t ∧ t.mem.slots = s.mem.slots.set k .free ∧
          t.carry.copiers =
            s.carry.copiers.set c (.busy { r with phase := .writing, buffer := data, granted := false }) ∧
          s.carry.demand <+: t.carry.demand ∧ s.keepsTransfersBut t (fun _ => False) ∧ t.port.responses = [] ∧
          s.keepsOtherBlocks t) ∧
      (r.owned = false → ∀ st,
        ∃ t, exec (.memResponse k st data) s = .next t ∧ t.mem.slots = s.mem.slots.set k .free ∧
          t.carry.copiers = s.carry.copiers.set c .idle ∧ s.carry.demand <+: t.carry.demand ∧
          s.keepsTransfersBut t (fun _ => False) ∧ t.port.responses = [] ∧ s.keepsOtherBlocks t)

/-- R46, R25, R79: the OKAY response to the write of an owned copy takes the line out of the carry set and its entry out of
the demand queue, frees the copier, and ends SEEDING or HOMING when the set is now empty; a rollback that this completes has
its ROLLBACK_DONE, after the records of the copy. -/
def Obligations.CopyWriteRemovesLine : Prop :=
  ∀ (s : State) (k : Fin 12) (c : Fin 2) (q : MemRequest) (n l : Nat) (r : CopyRecord) (data : List Beat),
    s.mem.slots[k] = .pending q (.copier c) n l → s.carry.copiers[c] = .busy r → r.owned = true → r.phase = .writing →
    s.port.offered = [] →
      let x := s.windows[r.window]
      let rest := LineSet.remove r.line x.carry
      ∃ t, exec (.memResponse k .okay data) s = .next t ∧ t.mem.slots = s.mem.slots.set k .free ∧
        t.carry.copiers = s.carry.copiers.set c .idle ∧
        ({ window := r.window, line := r.line } : DemandEntry) ∉ t.carry.demand ∧
        (∀ v : WindowId, v ≠ r.window → t.windows[v] = s.windows[v]) ∧
        (rest ≠ [] ∨ x.state ≠ .seeding ∧ x.state ≠ .homing →
          t.windows[r.window] = { x with carry := rest } ∧ t.rollbacksEnd s.groups s.events) ∧
        (rest = [] → x.state = .seeding →
          t.windows[r.window] = { x with carry := [], state := .active } ∧
          t.rollbacksEnd s.groups (s.events.append (.seedDone r.window))) ∧
        (rest = [] → x.state = .homing →
          t.windows[r.window] = { x with carry := [], state := .disabled, live := .bank0 } ∧
          t.rollbacksEnd s.groups (s.events.append (.homeDone r.window))) ∧
        s.keepsTransfersBut t (fun _ => False) ∧ t.port.responses = [] ∧ t.timing = s.timing ∧
        t.locks = s.locks ∧ t.link = s.link ∧ t.startUp = s.startUp ∧ t.pins = s.pins

/-- R28, R47, R75, R22, R48, R79, R122: the ERROR response to a request of an owned copy faults its window, with the address
of the line the request addressed and both sets empty, and blocks its group; the window's pending writes are answered ERROR,
which frees the lock entries they claimed, its demand entries go and its other copies are disowned; a rollback that this
completes has its ROLLBACK_DONE, after the records of the fault (G0 first, log 23). Other windows, and their copies, go on
unaffected. -/
def Obligations.FailedCopyFaultsWindow : Prop :=
  ∀ (s : State) (k : Fin 12) (c : Fin 2) (q : MemRequest) (n l : Nat) (r : CopyRecord) (data : List Beat),
    s.mem.slots[k] = .pending q (.copier c) n l → s.carry.copiers[c] = .busy r → r.owned = true →
    s.port.offered = [] →
      ∃ t, exec (.memResponse k .error data) s = .next t ∧ t.mem.slots = s.mem.slots.set k .free ∧
        s.copyFaults t c r s.events

/-- R139, R141, R147: a request whose response timer has reached its limit times out: its slot is FENCED with the memory
limit of that moment, MEM_TIMEOUT stands before every other record of the event, and the owner is given ERROR: a transfer's
only request answers it, which frees the entry that an UNLOCK_WRITE claimed and arms nothing (R122, R62); an owned copy
faults its window, as the ERROR response to it does (R28), which may end rollbacks (every group's mark tested, G0 first: the
model's choice, log 23); a disowned copy only ends (R48); and a boot load fails. -/
def Obligations.TimeoutRecordsFencesAndFails : Prop :=
  ∀ (s : State) (k : Fin 12) (q : MemRequest) (o : Owner) (n l : Nat), s.mem.slots[k] = .pending q o n l → l ≤ n →
    s.port.offered = [] →
    (∀ (i : Fin 8) (u : Transfer) (a : Address), o = .transfer i .first → s.port.slots[i] = some u → u.phase = .issued →
      u.first = .outstanding a → u.shadow = .absent →
        ∃ t, exec (.memTimeout k) s = .next t ∧
          t.mem.slots = s.mem.slots.set k (.fenced 0 s.link.memoryLimit.toNat) ∧
          s.endsTransfer t i u .error [] (s.events.append (.memTimeout q.address u.window))) ∧
    (∀ (c : Fin 2) (r : CopyRecord), o = .copier c → s.carry.copiers[c] = .busy r → r.owned = true →
        ∃ t, exec (.memTimeout k) s = .next t ∧
          t.mem.slots = s.mem.slots.set k (.fenced 0 s.link.memoryLimit.toNat) ∧
          s.copyFaults t c r (s.events.append (.memTimeout q.address (some r.window)))) ∧
    (∀ (c : Fin 2) (r : CopyRecord), o = .copier c → s.carry.copiers[c] = .busy r → r.owned = false →
        ∃ t, exec (.memTimeout k) s = .next t ∧
          t.mem.slots = s.mem.slots.set k (.fenced 0 s.link.memoryLimit.toNat) ∧
          t.carry.copiers = s.carry.copiers.set c .idle ∧
          t.events = s.events.append (.memTimeout q.address (some r.window)) ∧ t.windows = s.windows ∧
          t.groups = s.groups ∧ t.locks = s.locks ∧ s.carry.demand <+: t.carry.demand ∧
          s.keepsTransfersBut t (fun _ => False) ∧ t.port.responses = []) ∧
    (o = .startUp →
        ∃ t, exec (.memTimeout k) s = .next t ∧
          t.mem.slots = s.mem.slots.set k (.fenced 0 s.link.memoryLimit.toNat) ∧ t.startUp.state = .ended ∧
          t.events = (s.events.append (.memTimeout q.address none)).append (.bootBad .memory) ∧ t.windows = s.windows ∧
          t.groups = s.groups ∧ t.locks = s.locks ∧ t.carry.copiers = s.carry.copiers ∧
          s.keepsTransfersBut t (fun _ => False) ∧ t.port.responses = [])

/-! ## The carry engine -/

/-- R41, R42: the four conditions of a candidate, and the order of takes: demand lines first, oldest entry first; then lines
of urgent windows, whose group is ARMED with its source CLOSED (R74), then the others, by window and line ascending. -/
def Obligations.CandidatesAreTakenInOrder : Prop :=
  ∀ s : State,
    (∀ (w : WindowId) (line : Nat),
      let x := s.windows[w]
      let copies := [x.lineAddress x.live line, x.lineAddress x.shadow line]
      s.candidate w line = true ↔
        (x.state = .seeding ∨ x.state = .active ∨ x.state = .homing) ∧ line ∈ x.carry ∧
          (∀ c : Fin 2, ∀ k, s.carry.copiers[c] = .busy k → k.source ∉ copies ∧ k.destination ∉ copies) ∧
          (∀ a ∈ copies, s.writeInFlightOn a = false) ∧ x.liveReads x.shadow = 0) ∧
    (∀ w : WindowId, s.urgent w = true ↔ s.groups[s.windows[w].group].state.isArmed = true ∧
      s.timing.sources[s.groups[s.windows[w].group].source].phase = .closed) ∧
    (∀ w line, s.firstCandidate = some (w, line, .demand) →
      s.carry.demand.find? (fun d => s.candidate d.window d.line) = some { window := w, line := line }) ∧
    (s.setsAscending → ∀ w line, s.firstCandidate = some (w, line, .background) →
      s.candidate w line = true ∧ (∀ d ∈ s.carry.demand, s.candidate d.window d.line = false) ∧
        ∀ v x, s.candidate v x = true →
          (s.urgent v = true → s.urgent w = true) ∧
          (s.urgent v = s.urgent w → w < v ∨ w = v ∧ line ≤ x)) ∧
    (s.firstCandidate = none ↔ ∀ v x, s.candidate v x = false)

/-- R43, R40: the first idle copier takes the first candidate: its record names the line's live copy as source and its shadow
copy as destination; the line stays in the carry set. -/
def Obligations.CopierTakesFirstCandidate : Prop :=
  ∀ (s : State) (c : Fin 2) (w : WindowId) (line : Nat) (origin : CopyOrigin), s.carry.copiers[c] = .idle →
    (∀ d : Fin 2, d < c → s.carry.copiers[d] ≠ .idle) → s.firstCandidate = some (w, line, origin) →
      ∃ t, exec .copierTake s = .next t ∧
        t.carry.copiers = s.carry.copiers.set c (.busy
          { window := w
            line := line
            source := s.windows[w].lineAddress s.windows[w].live line
            destination := s.windows[w].lineAddress s.windows[w].shadow line
            origin := origin
            owned := true
            phase := .reading
            buffer := []
            granted := false
            taken := s.carry.nextTake }) ∧
        s.carry.demand <+: t.carry.demand ∧ s.keepsTransfersBut t (fun _ => False) ∧ t.port.responses = [] ∧
        t.mem = s.quiet.mem ∧ s.keepsOtherBlocks t

/-! ## Epoch sources -/

/-- R84, R93: each tick of REFCLK samples both inputs: a high sample after a low one is a rising edge, and a first sample
after a reset is none. The edge found is a boundary of the input's source; where none was found, a change of level only moves
the line, and a second change before the next tick leaves no trace of the first, so a pulse or a gap between two ticks is not
seen. While PWRUP_N or RST_N is low a tick samples nothing and there is no boundary. That an edge found waits for its row,
which also carries the line's level, is the model's choice (log 6). R87: the expiry of a close timer makes the phase CLOSED
and stops the timer, and nothing else changes. -/
def Obligations.SyncSamplesAndCloseTimerMoveSources : Prop :=
  (∀ s : State,
    (s.resetHeld = true → s.tick.timing = s.timing) ∧
    (∀ i : Fin 2, s.resetHeld = false → s.tick.timing.lastSample[i] = some s.pins.syncHigh[i] ∧
      (s.tick.timing.edges[i] = true ↔ s.timing.edges[i] = true ∨
        s.pins.syncHigh[i] = true ∧ s.timing.lastSample[i] = some false))) ∧
  (∀ (s : State) (i : Fin 2) (level : Bool),
    let moved := s.quiet.withPins { s.pins with syncHigh := s.pins.syncHigh.set i level }
    let taken := moved.withTiming { s.timing with edges := s.timing.edges.set i false }
    (s.timing.edges[i] = false → exec (.syncRisingEdge i level) s = .next moved ∧
      ∀ next : Bool, exec (.syncRisingEdge i next) moved = exec (.syncRisingEdge i next) s) ∧
    (s.timing.edges[i] = true → s.resetHeld = true → exec (.syncRisingEdge i level) s = .next taken) ∧
    (s.timing.edges[i] = true → s.resetHeld = false →
      exec (.syncRisingEdge i level) s = .next (taken.boundaryOf i.castSucc))) ∧
  ∀ (s : State) (e : SourceId), s.timing.sources[e].closeTimer = .expiring →
    exec (.closeTimerExpiry e) s =
      .next (s.quiet.setSource e { s.timing.sources[e] with phase := .closed, closeTimer := .stopped })

/-- R85, R86, R87, R67: BOUNDARY is ACCEPTED outside the boot load and is a boundary of E2. A boundary increases its
source's counter modulo 2^32, opens the phase and restarts the close timer from the close delay, a delay of 0 leaving it
stopped; the other sources do not change. The boundary with its epoch number then reaches every group whose source it is, G0
first (log 9), each of which takes it as its state says; the transfers are tested after it. -/
def Obligations.BoundaryAdvancesItsSource : Prop :=
  (∀ s : State, s.takesCommand →
    exec .boundary s = .next (((s.quiet.withLink { s.link with code := 0x06, frame := .write 0x0002 }).boundaryOf 2).withLink
      { s.link with code := 0x06, frame := .write 0x0002, result := .accepted })) ∧
  ∀ (s : State) (e : SourceId),
    let n := s.timing.sources[e].counter + 1
    let opened : Source :=
      { counter := n
        phase := .opened
        closeDelay := s.timing.sources[e].closeDelay
        closeTimer := if s.timing.sources[e].closeDelay = 0 then .stopped else .running s.timing.sources[e].closeDelay }
    let s1 := s.setSource e opened
    ∃ t, s.boundaryOf e = t ∧
    t = ((places 4).foldl (fun a g => if s.groups[g].source = e then a.takeBoundary g n else a) s1).retest ∧
    (∀ g : GroupId, s.groups[g].source = e → t.groups[g] = (s1.takeBoundary g n).groups[g]) ∧
    (∀ w : WindowId, s.groups[s.windows[w].group].source = e →
      t.windows[w] = (s1.takeBoundary s.windows[w].group n).windows[w]) ∧
    t.timing.sources[e] = opened ∧
    (∀ d : SourceId, d ≠ e → t.timing.sources[d] = s.timing.sources[d]) ∧ t.timing.lastSample = s.timing.lastSample ∧
    t.timing.edges = s.timing.edges ∧
    (∀ g : GroupId, s.groups[g].source ≠ e → t.groups[g] = s.groups[g]) ∧
    (∀ w : WindowId, s.groups[s.windows[w].group].source ≠ e → t.windows[w] = s.windows[w]) ∧
    t.locks = s.locks ∧ t.mem = s.mem ∧ t.link = s.link ∧ t.startUp = s.startUp ∧ t.pins = s.pins ∧
    t.carry.copiers = s.carry.copiers ∧ t.port.responses = s.port.responses ∧ s.keepsTransfersBut t (fun _ => False)

/-! ## Publication groups -/

/-- R69, R57, R73: the gate passes when every member in SEEDING, ACTIVE, HOMING or FAULTED is ACTIVE with an empty carry set
and no entry of the lock table held by a producer of the group has its line in the member's home range. -/
def Obligations.FlipGateTestsThreeConditions : Prop :=
  ∀ (s : State) (g : GroupId),
    s.gatePasses g = true ↔
      ∀ w : WindowId, s.windows[w].group = g → s.windows[w].state ≠ .disabled → s.windows[w].state ≠ .suspended →
        s.windows[w].state = .active ∧ s.windows[w].carry = [] ∧
          ∀ j : Fin 4, ∀ l ∈ s.locks[j], inProducers s.groups[g].producers l.master = true →
            s.windows[w].inHome l.line = false

/-- R67, R68, R72, R71, R29, R73: what a group does at a boundary of its source. Where the counted boundary finds its gate
passing, every taking-part member toggles LIVE, takes its dirty set as carry set and records the epoch, no other window
changes, and the group becomes OPEN with the epoch and FLIP. -/
def Obligations.GroupTakesBoundaryByState : Prop :=
  ∀ (s : State) (g : GroupId) (n : Epoch),
    (s.groups[g].state.isArmed = false → s.takeBoundary g n = s) ∧
    (∀ c late, s.groups[g].state = .armed c late →
      (s.groups[g].hold = true ∨ late = true →
        s.takeBoundary g n = { s with groups := s.groups.set g { s.groups[g] with state := .armed c false } }) ∧
      (s.groups[g].hold = false → late = false → c = .two →
        s.takeBoundary g n = { s with groups := s.groups.set g { s.groups[g] with state := .armed .one false } }) ∧
      (s.groups[g].hold = false → late = false → c = .one → s.gatePasses g = false →
        s.takeBoundary g n = { s with
          groups := s.groups.set g { s.groups[g] with state := .armed .one false }
          events := s.events.append (.missed g n) }) ∧
      (s.groups[g].hold = false → late = false → c = .one → s.gatePasses g = true →
        ∃ windows, s.takeBoundary g n = { s with
            windows := windows
            groups := s.groups.set g { s.groups[g] with state := .opened, lastEpoch := some n }
            events := s.events.append (.flip g n) } ∧
          ∀ w : WindowId,
            (s.windows[w].group = g → s.windows[w].state = .active → windows[w] = { s.windows[w] with
              live := s.windows[w].live.other
              carry := s.windows[w].dirty
              dirty := []
              publishedEpoch := some n }) ∧
            (s.windows[w].group ≠ g ∨ s.windows[w].state ≠ .active → windows[w] = s.windows[w])))

/-! ## Commands -/

/-- R165, R166, R164, R23, R26, R27, R63, R78: during a boot load every command is refused with REFUSED_BOOT; outside it a
code that names none, and an argument that names no window or no group, with REFUSED_ARGUMENT. R23: tests 3 to 7 of ENABLE
in their order; the first that fails gives the result. A refused command changes nothing but the code, the index and the
result. -/
def Obligations.CommandsAreRefusedByTestsInOrder : Prop :=
  (∀ s : State, s.byteFrame = .write 0x0001 →
    (s.bootInProgress = true →
      exec .enable s = .next (s.commandDone 0x01 .refusedBoot) ∧
      exec .disable s = .next (s.commandDone 0x02 .refusedBoot) ∧
      exec .suspend s = .next (s.commandDone 0x03 .refusedBoot) ∧
      exec .publish s = .next (s.commandDone 0x04 .refusedBoot) ∧
      exec .rollback s = .next (s.commandDone 0x05 .refusedBoot) ∧
      exec .boundary s = .next (s.commandDone 0x06 .refusedBoot) ∧
      exec .softReset s = .next (s.commandDone 0x07 .refusedBoot)) ∧
    (∀ code : Byte, code = 0 ∨ 8 ≤ code.toNat →
      exec (.commandCodeNamingNoCommand code) s =
        .next (s.commandDone code (if s.bootInProgress then .refusedBoot else .refusedArgument))) ∧
    (s.bootInProgress = false → 16 ≤ s.link.argument.toNat →
      exec .enable s = .next (s.commandDone 0x01 .refusedArgument) ∧
      exec .disable s = .next (s.commandDone 0x02 .refusedArgument) ∧
      exec .suspend s = .next (s.commandDone 0x03 .refusedArgument)) ∧
    (s.bootInProgress = false → 4 ≤ s.link.argument.toNat →
      exec .publish s = .next (s.commandDone 0x04 .refusedArgument) ∧
      exec .rollback s = .next (s.commandDone 0x05 .refusedArgument))) ∧
  ∀ (s : State) (w : WindowId), s.takesCommand → s.link.argument.toNat = w.val →
    let x := s.windows[w]
    let stateFails := x.state = .seeding ∨ x.state = .active ∨ x.state = .homing
    let valueFails := x.sizeCode.toNat < 12 ∨ 20 < x.sizeCode.toNat ∨ ¬ 2 ^ x.sizeCode.toNat ∣ x.base.toNat ∨
      ¬ 2 ^ x.sizeCode.toNat ∣ x.twin.toNat
    let overlapFails := x.selfOverlap = true ∨
      ∃ v : WindowId, v ≠ w ∧ s.windows[v].state ≠ .disabled ∧ x.overlaps s.windows[v] = true
    (stateFails → exec .enable s = .next (s.commandDone 0x01 .refusedState)) ∧
    (¬ stateFails → valueFails → exec .enable s = .next (s.commandDone 0x01 .refusedArgument)) ∧
    (¬ stateFails → ¬ valueFails → overlapFails → exec .enable s = .next (s.commandDone 0x01 .refusedOverlap))

/-- R24, R22, R76: an ENABLE that passes its tests puts the window in SEEDING with every line in its carry set, answers
RETRY to every write in its ranges not yet issued, which lifts the claims of those writes (R122), and opens its group when
no member is FAULTED any more. -/
def Obligations.EnableStartsSeeding : Prop :=
  ∀ (s : State) (w : WindowId), s.Inv → s.takesCommand → s.link.argument.toNat = w.val → s.enableTest w = .accepted →
    s.port.offered = [] →
    let x := s.windows[w]
    ∃ t, exec .enable s = .next t ∧
      t.windows = s.windows.set w { x with
        state := .seeding
        dirty := []
        carry := List.range (2 ^ (x.sizeCode.toNat - 6))
        faultAddress := none } ∧
      s.settlesWrites t x.inRanges .retry ∧
      t.groups = s.groupsUnblocked w ∧
      t.link = { s.link with code := 0x01, frame := .write 0x0002, result := .accepted } ∧ t.events = s.events ∧
      t.carry.copiers = s.carry.copiers ∧ s.carry.demand <+: t.carry.demand ∧ t.timing = s.timing ∧
      t.mem = s.quiet.mem ∧ t.startUp = s.startUp ∧ t.pins = s.pins

/-- R26, R22, R76, R79: DISABLE of a window that is DISABLED or HOMING changes nothing; of any other it turns the window off
at once when LIVE is 0 and sends it homing, every line in its carry set, when LIVE is 1; its demand entries go and its
copies are disowned; its pending writes are answered RETRY, which lifts their claims (R122); its group opens when it was the
last FAULTED member, and a rollback that this completes has its ROLLBACK_DONE (every group's mark tested, G0 first: the
model's choice, log 23). -/
def Obligations.DisableTurnsOffOrHomes : Prop :=
  ∀ (s : State) (w : WindowId), s.takesCommand → s.link.argument.toNat = w.val →
    let x := s.windows[w]
    (x.state = .disabled → exec .disable s = .next (s.commandDone 0x02 .accepted)) ∧
    (x.state = .homing → exec .disable s = .next (s.commandDone 0x02 .refusedState)) ∧
    (x.state ≠ .disabled → x.state ≠ .homing → s.Inv → s.port.offered = [] →
      ∃ t, exec .disable s = .next t ∧
        (x.live = .bank0 → t.windows =
          s.windows.set w { x with state := .disabled, dirty := [], carry := [], faultAddress := none }) ∧
        (x.live = .bank1 → t.windows = s.windows.set w { x with
          state := .homing
          dirty := []
          carry := List.range (2 ^ (x.sizeCode.toNat - 6))
          faultAddress := none }) ∧
        t.dropsCarryWork s.carry.demand s.carry.copiers w ∧
        s.settlesWrites t x.inRanges .retry ∧
        t.rollbacksEnd (s.groupsUnblocked w) s.events ∧
        t.link = { s.link with code := 0x02, frame := .write 0x0002, result := .accepted } ∧
        t.timing = s.timing ∧ t.mem = s.quiet.mem ∧ t.startUp = s.startUp ∧ t.pins = s.pins)

/-- R27, R22, R76, R79: SUSPEND of a SUSPENDED window changes nothing, of a DISABLED or HOMING window is refused, and of any
other stops it with both sets emptied; LIVE is kept; its pending writes are answered RETRY, which lifts their claims (R122),
its demand entries go and its copies are disowned; its group opens when it was the last FAULTED member, and a rollback that
this completes has its ROLLBACK_DONE (every group's mark tested, G0 first: the model's choice, log 23). -/
def Obligations.SuspendStopsPublishing : Prop :=
  ∀ (s : State) (w : WindowId), s.takesCommand → s.link.argument.toNat = w.val →
    let x := s.windows[w]
    (x.state = .suspended → exec .suspend s = .next (s.commandDone 0x03 .accepted)) ∧
    (x.state = .disabled ∨ x.state = .homing → exec .suspend s = .next (s.commandDone 0x03 .refusedState)) ∧
    (x.state = .seeding ∨ x.state = .active ∨ x.state = .faulted → s.Inv → s.port.offered = [] →
      ∃ t, exec .suspend s = .next t ∧
        t.windows = s.windows.set w { x with state := .suspended, dirty := [], carry := [], faultAddress := none } ∧
        t.dropsCarryWork s.carry.demand s.carry.copiers w ∧
        s.settlesWrites t x.inRanges .retry ∧
        t.rollbacksEnd (s.groupsUnblocked w) s.events ∧
        t.link = { s.link with code := 0x03, frame := .write 0x0002, result := .accepted } ∧
        t.timing = s.timing ∧ t.mem = s.quiet.mem ∧ t.startUp = s.startUp ∧ t.pins = s.pins)

/-- R63: PUBLISH arms an OPEN group, leaves an ARMED one, both ACCEPTED, and is refused by a BLOCKED group with ARM_REFUSED
that names no master. -/
def Obligations.PublishArmsItsGroup : Prop :=
  ∀ (s : State) (g : GroupId), s.takesCommand → s.link.argument.toNat = g.val →
    (s.groups[g].state = .opened → exec .publish s = .next { s.commandDone 0x04 .accepted with
      groups := s.groups.set g { s.groups[g] with
        state := .armed s.groups[g].lag (decide (s.timing.sources[s.groups[g].source].phase = .closed)) } }) ∧
    (s.groups[g].state.isArmed = true → exec .publish s = .next (s.commandDone 0x04 .accepted)) ∧
    (s.groups[g].state = .blocked → exec .publish s = .next { s.commandDone 0x04 .refusedState with
      events := s.events.append (.armRefused g none) })

/-- R78, R54, R79: ROLLBACK returns the staged lines of every SEEDING or ACTIVE member to its carry set, opens an ARMED
group with ARM_DROPPED, and sets the rollback-pending mark. The test of the mark clears it with ROLLBACK_DONE when no member
has a line to copy; ROLLBACK makes that test at once, of every group's mark (log 23). A ROLLBACK while the mark is set
merges into it: the mark stays, and one ROLLBACK_DONE is recorded at its end. -/
def Obligations.RollbackReturnsStagedLines : Prop :=
  (∀ (s : State) (g : GroupId),
    (s.groups[g].rollbackPending = true → (∀ w : WindowId, s.windows[w].group = g → s.windows[w].carry = []) →
      s.testRollback g = { s with
        groups := s.groups.set g { s.groups[g] with rollbackPending := false }
        events := s.events.append (.rollbackDone g) }) ∧
    (s.groups[g].rollbackPending = false ∨ (∃ w : WindowId, s.windows[w].group = g ∧ s.windows[w].carry ≠ []) →
      s.testRollback g = s)) ∧
  ∀ (s : State) (g : GroupId), s.takesCommand → s.link.argument.toNat = g.val →
    let e := if s.groups[g].state.isArmed then s.events.append (.armDropped g) else s.events
    let after : GroupState := if s.groups[g].state.isArmed then .opened else s.groups[g].state
    ∃ t, exec .rollback s = .next t ∧
      (∀ w : WindowId, s.windows[w].group = g → s.windows[w].state = .seeding ∨ s.windows[w].state = .active →
        t.windows[w] = { s.windows[w] with carry := t.windows[w].carry, dirty := [] } ∧
          ∀ x, x ∈ t.windows[w].carry ↔ x ∈ s.windows[w].carry ∨ x ∈ s.windows[w].dirty) ∧
      (∀ w : WindowId, s.windows[w].group ≠ g ∨ s.windows[w].state ≠ .seeding ∧ s.windows[w].state ≠ .active →
        t.windows[w] = s.windows[w]) ∧
      t.rollbacksEnd (s.groups.set g { s.groups[g] with state := after, rollbackPending := true }) e ∧
      s.keepsTransfersBut t (fun _ => False) ∧ t.port.responses = [] ∧ t.carry.copiers = s.carry.copiers ∧
      s.carry.demand <+: t.carry.demand ∧
      t.link = { s.link with code := 0x05, frame := .write 0x0002, result := .accepted } ∧
      t.timing = s.timing ∧ t.locks = s.locks ∧ t.mem = s.quiet.mem ∧ t.startUp = s.startUp ∧ t.pins = s.pins

/-- R167 with R30, R55, R82, R92, R115, R129, R143, R155: what SOFT_RESET does to every block, with its RESET record; the
link goes on with the result ACCEPTED. -/
def Obligations.SoftResetTakesEveryBlock : Prop :=
  ∀ s : State, s.takesCommand → s.port.offered = [] →
    ∃ t, exec .softReset s = .next t ∧
      (∀ w : WindowId, t.windows[w] = { s.windows[w] with
        state := (if s.windows[w].state = .disabled then WindowState.disabled else WindowState.suspended)
        faultAddress := none
        dirty := []
        carry := []
        liveReads0 := 0
        liveReads1 := 0 }) ∧
      (∀ g : GroupId, t.groups[g] = { s.groups[g] with hold := false, state := .opened, rollbackPending := false }) ∧
      (∀ e : SourceId, t.timing.sources[e] = { s.timing.sources[e] with phase := .opened, closeTimer := .stopped }) ∧
      t.timing.lastSample = s.timing.lastSample ∧ t.timing.edges = s.timing.edges ∧
      (∀ i : Fin 8, t.port.slots[i] = none) ∧ t.port.responses = [] ∧ t.port.offered = [] ∧
      (∀ j : Fin 4, t.locks[j] = none) ∧ t.carry.demand = [] ∧ (∀ c : Fin 2, t.carry.copiers[c] = .idle) ∧
      (∀ k : Fin 12, t.mem.slots[k] = match s.mem.slots[k] with
        | .free => .free
        | .pending _ _ _ _ => .fenced 0 s.link.memoryLimit.toNat
        | .fenced n l => .fenced n l) ∧ t.mem.share = 0 ∧
      t.events = s.events.append (.reset .soft) ∧
      t.link = { s.link with code := 0x07, frame := .write 0x0002, result := .accepted } ∧ t.startUp = s.startUp ∧
      t.pins = s.pins

/-! ## The management link -/

/-- R158, R159, R157, R169: MSEL_N and the identifier and index bytes move the frame state; nothing but the link and the
pins changes. A frame opens with MCLK low (the model's choice, log 25). A read frame's first
data byte is presented as its index is taken (log 11). -/
def Obligations.FrameEventsMoveFrameState : Prop :=
  ∀ s : State,
    let closed : Link := { s.link with
      frame := .idle
      inBits := []
      indexHigh := none
      staging := []
      snapshot := none
      out := none
      mdo := none }
    (s.pins.mselLow = false →
      let pins := { s.pins with mselLow := true, mclkHigh := false }
      (s.resetHeld = false → exec .frameOpen s =
        .next { s.quiet with pins := pins, link := { closed with frame := .ident } }) ∧
      (s.resetHeld = true → exec .frameOpen s = .next { s.quiet with pins := pins })) ∧
    (s.pins.mselLow = true → exec .frameEnd s =
      .next { s.quiet with pins := { s.pins with mselLow := false }, link := closed }) ∧
    (s.byteFrame = .ident → ∀ b : Byte,
      (b = 0xAE → exec (.identifierByte b) s =
        .next { s.quiet with link := { s.link with frame := .index .readFrame } }) ∧
      (b = 0x2E → exec (.identifierByte b) s =
        .next { s.quiet with link := { s.link with frame := .index .writeFrame } }) ∧
      (b ≠ 0xAE → b ≠ 0x2E → exec (.identifierByte b) s =
        .next { s.quiet with link := { s.link with frame := .skip } })) ∧
    (s.byteFrame = .index .writeFrame → ∀ hi lo : Byte, exec (.indexBytes hi lo) s =
      .next { s.quiet with link := { s.link with frame := .write (hi ++ lo) } }) ∧
    (s.byteFrame = .index .readFrame → ∀ hi lo : Byte, exec (.indexBytes hi lo) s =
      .next ((s.quiet.withLink { s.link with frame := .read (hi ++ lo) }).present (hi ++ lo)))

/-- R157, R158, R159: the bits of a frame. That bits still to be sent stand in the state and which edge comes next is the
model's choice (log 25), and edges of MCLK with MSEL_N high are no events (log 17). A rising edge of MCLK takes the next bit
from MDI; outside a frame and in a skipped one it is ignored. The eighth bit completes a byte, most significant bit first:
the identifier, an index byte, a byte read, whose effect is that of its row but for the next byte (log 11), or a byte
written, whose effect is that of its row. A falling edge in a read frame places the next bit of the byte on MDO, and before
the first bit of a byte takes the byte; at every other time it moves nothing. -/
def Obligations.SerialBitsMakeBytes : Prop :=
  (∀ s : State,
    (s.pins.mselLow = false → s.nextEdge = none) ∧
    (s.pins.mselLow = true → s.pins.mclkHigh = true → s.nextEdge = some s.quiet.mclkFall) ∧
    (s.pins.mselLow = true → s.pins.mclkHigh = false → s.pins.line = [] → s.nextEdge = none) ∧
    (∀ b rest, s.pins.mselLow = true → s.pins.mclkHigh = false → s.pins.line = b :: rest →
      s.nextEdge = some (s.quiet.mclkRise b rest))) ∧
  (∀ (s : State) (b : Bool) (rest : List Bool),
    (s.link.frame = .idle ∨ s.link.frame = .skip → s.mclkRise b rest = s.withClock true rest) ∧
    (s.link.frame ≠ .idle → s.link.frame ≠ .skip → s.link.inBits.length < 7 → s.mclkRise b rest =
      (s.withClock true rest).withLink { s.link with inBits := s.link.inBits ++ [b] })) ∧
  (∀ (s : State) (b : Bool) (rest : List Bool) (v : Byte), s.link.inBits ++ [b] = (List.range 8).map v.getMsbD →
    let whole := { s.link with inBits := [] }
    let clocked := s.withClock true rest
    (s.link.frame = .ident → s.mclkRise b rest = clocked.withLink { whole with
      frame := if v = 0xAE then .index .readFrame else if v = 0x2E then .index .writeFrame else .skip }) ∧
    (∀ d, s.link.frame = .index d → s.link.indexHigh = none →
      s.mclkRise b rest = clocked.withLink { whole with indexHigh := some v }) ∧
    (∀ h, s.link.indexHigh = some h →
      (s.link.frame = .index .readFrame →
        s.mclkRise b rest = clocked.withLink { whole with indexHigh := none, frame := .read (h ++ v) }) ∧
      (s.link.frame = .index .writeFrame →
        s.mclkRise b rest = clocked.withLink { whole with indexHigh := none, frame := .write (h ++ v) })) ∧
    (∀ i, s.link.frame = .read i →
      ∃ t, exec .headRecordRemoval ((s.withLink { whole with indexHigh := none }).withClock false rest) = .next t ∧
        (s.mclkRise b rest).events = t.events ∧
        s.mclkRise b rest =
          (clocked.withLink { whole with frame := .read (i + 1) }).withEvents (s.mclkRise b rest).events) ∧
    (∀ i, s.link.frame = .write i → s.link.indexHigh = none →
      ∃ t, exec (dataByteRow i v) ((s.withLink whole).withClock false rest) = .next t ∧
        s.quiet.mclkRise b rest = t.withClock true rest)) ∧
  ∀ s : State,
    (∀ i, s.link.frame = .read i →
      (s.link.inBits = [] → s.mclkFall = (s.withClock false s.pins.line).present i) ∧
      (∀ v, s.link.inBits ≠ [] → s.link.out = some v → s.mclkFall =
        (s.withClock false s.pins.line).withLink { s.link with mdo := some (v.getMsbD s.link.inBits.length) })) ∧
    ((∀ i, s.link.frame ≠ .read i) → s.mclkFall = s.withClock false s.pins.line)

/-- R159, R161, R157, R180, R150, R152: the byte a read frame presents, its most significant bit on MDO first: 0 at an
unassigned index; at a field's byte, that byte of the snapshot, which is new at the field's lowest byte and where the frame
holds none of the field. Completing the read of 0x002F removes the head record where the snapshot names one, and completing
any other byte removes nothing; the index increases by one modulo 2^16 and the next byte is presented (log 11). -/
def Obligations.ReadBytesFollowSnapshotAndRemoveHead : Prop :=
  (∀ (s : State) (i : Index),
    (fieldAt i = none → s.present i = s.withLink { s.link with out := some 0, mdo := some false }) ∧
    (∀ f o, fieldAt i = some (f, o) →
      (o = 0 ∨ (∀ n ∈ s.link.snapshot, n.field ≠ f) → s.present i = s.withLink { s.link with
        snapshot := some
          { field := f
            bytes := s.fieldBytes f
            namesRecord := decide (f = .headRecord) && !s.events.records.isEmpty }
        out := some ((s.fieldBytes f).getD o 0)
        mdo := some ((s.fieldBytes f).getD o 0).msb }) ∧
      (∀ n, o ≠ 0 → s.link.snapshot = some n → n.field = f →
        s.present i = s.withLink { s.link with
          out := some (n.bytes.getD o 0)
          mdo := some (n.bytes.getD o 0).msb }))) ∧
  ∀ (s : State) (i : Index), s.byteFrame = .read i →
    let link := { s.link with frame := .read (i + 1) }
    let records := s.events.records.tail
    let left := { s.events with records := records, irqLow := records.any fun r => s.events.mask.getLsbD r.kind }
    (∀ n, i = 0x002F → s.link.snapshot = some n → n.field = .headRecord → n.namesRecord = true →
      exec .headRecordRemoval s = .next (({ s.quiet with events := left, link := link }).present (i + 1))) ∧
    (i ≠ 0x002F ∨ (∀ n ∈ s.link.snapshot, n.field ≠ .headRecord ∨ n.namesRecord = false) →
      exec .headRecordRemoval s = .next ((s.quiet.withLink link).present (i + 1)))

/-- R180 to R184, R162, R83, R56, R1: where each field lies in the index space, with its number of bytes and whether the
link only reads it, and which indices are unassigned; and the bytes that each field shows, lowest index first. A stopped
close timer reads 0, a running one its remaining count, and one whose last tick is due 1 (log 4). -/
def Obligations.FieldsShowTheirLayouts : Prop :=
  let le4 := fun v : BitVec 32 => [v.extractLsb' 0 8, v.extractLsb' 8 8, v.extractLsb' 16 8, v.extractLsb' 24 8]
  let le3 := fun v : BitVec 24 => [v.extractLsb' 0 8, v.extractLsb' 8 8, v.extractLsb' 16 8]
  let le2 := fun v : BitVec 16 => [v.extractLsb' 0 8, v.extractLsb' 8 8]
  let flag := fun b : Bool => if b then (1 : Byte) else 0
  let number := fun n : Nat => BitVec.ofNat 8 n
  let layout := fun (first : Nat) (fields : List (Nat × Nat × Bool × Field)) =>
    ∀ p ∈ fields, p.2.2.2.width = p.2.1 ∧ p.2.2.2.readOnly = p.2.2.1 ∧
      ∀ (i : Index) (o : Nat), o < p.2.1 → i.toNat = first + p.1 + o → fieldAt i = some (p.2.2.2, o)
  layout 0x0000 [(0x00, 1, false, .argument), (0x01, 1, false, .code), (0x02, 1, true, .result),
    (0x03, 1, false, .writeRefused), (0x04, 2, false, .holdLimit), (0x06, 2, false, .lockLimit),
    (0x08, 2, false, .memoryLimit), (0x0C, 4, false, .eventMask), (0x10, 1, true, .eventCount),
    (0x11, 1, false, .overrun), (0x20, 16, true, .headRecord)] ∧
  (∀ w : WindowId, layout (0x0100 + 32 * w.val) [(0x00, 4, false, .windowBase w), (0x04, 4, false, .windowTwin w),
    (0x08, 1, false, .windowSizeCode w), (0x09, 1, false, .windowGroup w), (0x0A, 1, false, .windowPolicy w),
    (0x0B, 1, true, .windowEnableAtBoot w), (0x0C, 16, true, .windowStatus w)]) ∧
  (∀ g : GroupId, layout (0x0400 + 16 * g.val) [(0x00, 2, false, .groupProducers g), (0x02, 1, false, .groupSource g),
    (0x03, 1, false, .groupLag g), (0x04, 1, false, .groupHold g), (0x05, 4, false, .groupTrigger g),
    (0x09, 7, true, .groupStatus g)]) ∧
  (∀ e : SourceId, layout (0x0480 + 16 * e.val) [(0x00, 4, true, .sourceCounter e), (0x04, 1, true, .sourcePhase e),
    (0x05, 3, false, .sourceCloseDelay e), (0x08, 3, true, .sourceCloseTimer e)]) ∧
  (∀ i : Index,
    (0x000A ≤ i.toNat ∧ i.toNat ≤ 0x000B ∨ 0x0012 ≤ i.toNat ∧ i.toNat ≤ 0x001F ∨ 0x0030 ≤ i.toNat ∧ i.toNat ≤ 0x00FF ∨
      (∃ w : WindowId, 0x011C + 32 * w.val ≤ i.toNat ∧ i.toNat ≤ 0x011F + 32 * w.val) ∨
      0x0300 ≤ i.toNat ∧ i.toNat ≤ 0x03FF ∨ 0x0440 ≤ i.toNat ∧ i.toNat ≤ 0x047F ∨
      (∃ e : SourceId, 0x048B + 16 * e.val ≤ i.toNat ∧ i.toNat ≤ 0x048F + 16 * e.val) ∨ 0x04B0 ≤ i.toNat) →
    fieldAt i = none) ∧
  (∀ s : State,
    s.fieldBytes .argument = [s.link.argument] ∧ s.fieldBytes .code = [s.link.code] ∧
    s.fieldBytes .result = [match s.link.result with
      | .none => 0x00
      | .accepted => 0x01
      | .refusedState => 0x02
      | .refusedArgument => 0x03
      | .refusedOverlap => 0x04
      | .refusedBoot => 0x05] ∧
    s.fieldBytes .writeRefused = [flag s.link.writeRefused] ∧ s.fieldBytes .holdLimit = le2 s.link.holdLimit ∧
    s.fieldBytes .lockLimit = le2 s.link.lockLimit ∧ s.fieldBytes .memoryLimit = le2 s.link.memoryLimit ∧
    s.fieldBytes .eventMask = le4 s.events.mask ∧ s.fieldBytes .eventCount = [number s.events.records.length] ∧
    s.fieldBytes .overrun = [flag s.events.overrun] ∧
    (s.events.records = [] → s.fieldBytes .headRecord = List.replicate 16 0) ∧
    (∀ r rest, s.events.records = r :: rest → s.fieldBytes .headRecord = r.bytes) ∧
    (∀ w : WindowId, let x := s.windows[w]
      s.fieldBytes (.windowBase w) = le4 x.base ∧ s.fieldBytes (.windowTwin w) = le4 x.twin ∧
      s.fieldBytes (.windowSizeCode w) = [x.sizeCode] ∧ s.fieldBytes (.windowGroup w) = [number x.group.val] ∧
      s.fieldBytes (.windowPolicy w) = [match x.policy with
        | .error => 0
        | .drop => 1
        | .both => 2] ∧
      s.fieldBytes (.windowEnableAtBoot w) = [flag x.enableAtBoot] ∧
      s.fieldBytes (.windowStatus w) =
        [match x.state with
          | .disabled => (0 : Byte)
          | .seeding => 1
          | .active => 2
          | .suspended => 3
          | .homing => 4
          | .faulted => 5,
          match x.live with
          | .bank0 => 0
          | .bank1 => 1,
          flag x.publishedEpoch.isSome, flag x.faultAddress.isSome] ++
        le4 (x.publishedEpoch.getD 0) ++ le4 (x.faultAddress.getD 0) ++ le2 (BitVec.ofNat 16 x.dirty.length) ++
        le2 (BitVec.ofNat 16 x.carry.length)) ∧
    (∀ g : GroupId, let x := s.groups[g]
      s.fieldBytes (.groupProducers g) = le2 x.producers ∧ s.fieldBytes (.groupSource g) = [number x.source.val] ∧
      s.fieldBytes (.groupLag g) = [if x.lag = .one then 1 else 2] ∧ s.fieldBytes (.groupHold g) = [flag x.hold] ∧
      (x.trigger = none → s.fieldBytes (.groupTrigger g) = [0, 0, 0, 0]) ∧
      (∀ v, x.trigger = some v →
        s.fieldBytes (.groupTrigger g) = number (v.window.val + 1) :: le3 (BitVec.ofNat 24 v.offset)) ∧
      s.fieldBytes (.groupStatus g) =
        [match x.state with
          | .opened => (0 : Byte)
          | .armed _ _ => 1
          | .blocked => 2,
          match x.state with
          | .opened => 0
          | .blocked => 0
          | .armed .one false => 1
          | .armed .two false => 2
          | .armed .one true => 3
          | .armed .two true => 4,
          match x.rollbackPending, x.lastEpoch.isSome with
          | false, false => 0
          | true, false => 1
          | false, true => 2
          | true, true => 3] ++
        le4 (x.lastEpoch.getD 0)) ∧
    (∀ e : SourceId, let x := s.timing.sources[e]
      s.fieldBytes (.sourceCounter e) = le4 x.counter ∧
      s.fieldBytes (.sourcePhase e) = [if x.phase = .closed then 1 else 0] ∧
      s.fieldBytes (.sourceCloseDelay e) = le3 x.closeDelay ∧
      s.fieldBytes (.sourceCloseTimer e) = le3 (match x.closeTimer with
        | .stopped => 0
        | .running n => n
        | .expiring => 1))) ∧
  ∀ r : EventRecord,
    let row := fun (kind : Nat) (m w g cause presence : Byte) (a n : BitVec 32) =>
      [number kind, m, w, g, cause, presence, 0, 0] ++ le4 a ++ le4 n
    let optional := fun x : Option (Fin 16) => match x with
      | none => (0 : Byte)
      | some v => number v.val
    r.bytes = match r with
      | .flip g n => row 1 0 0 (number g.val) 0 0 0 n
      | .missed g n => row 2 0 0 (number g.val) 0 0 0 n
      | .seedDone w => row 3 0 (number w.val) 0 0 0 0 0
      | .homeDone w => row 4 0 (number w.val) 0 0 0 0 0
      | .rollbackDone g => row 5 0 0 (number g.val) 0 0 0 0
      | .windowFault w a => row 6 0 (number w.val) 0 0 0 a 0
      | .memTimeout a w => row 7 0 (optional w) 0 0 (flag w.isSome) a 0
      | .align m a => row 8 (number m.val) 0 0 0 0 a 0
      | .twinAccess m a w => row 9 (number m.val) (number w.val) 0 0 0 a 0
      | .foreignWrite m a w => row 10 (number m.val) (number w.val) 0 0 0 a 0
      | .holdExpired m a w => row 11 (number m.val) (optional w) 0 0 (flag w.isSome) a 0
      | .lockBroken m a => row 12 (number m.val) 0 0 0 0 a 0
      | .unlockOrphan m a => row 13 (number m.val) 0 0 0 0 a 0
      | .armRefused g m => row 14 (optional m) 0 (number g.val) 0 (flag m.isSome) 0 0
      | .armDropped g => row 15 0 0 (number g.val) 0 0 0 0
      | .reset c => row 16 0 0 0 (if c = .line then 1 else 2) 0 0 0
      | .bootDone => row 17 0 0 0 0 0 0 0
      | .bootBad c => row 18 0 0 0 (match c with
        | .pointer => 1
        | .memory => 2
        | .signature => 3
        | .checksum => 4
        | .count => 5) 0 0 0

/-- R160, R162, R164: a written byte that no commit follows: it is staged below a field's highest byte, is the command
argument, is refused by a read-only field or by a flag that takes only 0, or lands in no field. R170: during a boot load every
field but the command argument, the command code and the write-refused flag refuses its writes; that each byte so written, a
lower byte of a field of several too, is refused as it is written and not staged is the model's reading (DEDUCED, log 13). -/
def Obligations.FieldBytesAreStagedTakenOrRefused : Prop :=
  ∀ (s : State) (i : Index) (b : Byte), s.byteFrame = .write i →
    let q := s.quiet.withLink { s.link with frame := .write (i + 1) }
    let refused := s.quiet.withLink { s.link with frame := .write (i + 1), writeRefused := true }
    (fieldAt i = none → exec (.fieldWrite b) s = .next q) ∧
    (i = 0x0000 → exec (.fieldWrite b) s =
      .next (s.quiet.withLink { s.link with frame := .write (i + 1), argument := b, staging := [] })) ∧
    (∀ f o, fieldAt i = some (f, o) → f.readOnly = true → exec (.fieldWrite b) s = .next refused) ∧
    (∀ f o, s.bootInProgress = false → fieldAt i = some (f, o) → f.readOnly = false → o + 1 < f.width →
      exec (.fieldWrite b) s =
        .next (s.quiet.withLink { s.link with frame := .write (i + 1), staging := (i, b) :: s.link.staging })) ∧
    (i = 0x0003 ∨ i = 0x0011 → b ≠ 0 → s.bootInProgress = false → exec (.fieldWrite b) s =
      .next (s.quiet.withLink { s.link with frame := .write (i + 1), writeRefused := true, staging := [] })) ∧
    (i = 0x0003 → b ≠ 0 → s.bootInProgress = true → exec (.fieldWrite b) s =
      .next (s.quiet.withLink { s.link with frame := .write (i + 1), writeRefused := true, staging := [] })) ∧
    (∀ f o, s.bootInProgress = true → fieldAt i = some (f, o) → f ≠ .argument → f ≠ .code → f ≠ .writeRefused →
      exec (dataByteRow i b) s = .next refused)

/-- R5, R181, R79: a window's group and policy bytes are taken in DISABLED and SUSPENDED where they name one, and refused
otherwise. A rollback that a change of group completes has its ROLLBACK_DONE (every group's mark tested, G0 first: the
model's choice, log 23). -/
def Obligations.WindowModeBytesNeedStoppedWindow : Prop :=
  ∀ (s : State) (w : WindowId) (b : Byte), s.bootInProgress = false →
    let stopped := s.windows[w].state = .disabled ∨ s.windows[w].state = .suspended
    let taken := fun (i : Index) (x : Window) =>
      ∃ t, exec (.windowConfigWrite b) s = .next t ∧ t.rollbacksEnd s.groups s.events ∧
        t = { s.quiet with
          windows := s.windows.set w x
          link := s.link.committed i
          groups := t.groups
          events := t.events }
    (∀ i : Index, i.toNat = 0x0109 + 32 * w.val → s.byteFrame = .write i →
      (∀ g : GroupId, stopped → b.toNat = g.val → taken i { s.windows[w] with group := g }) ∧
      (¬ stopped ∨ 4 ≤ b.toNat → exec (.windowConfigWrite b) s =
        .next (s.quiet.withLink { s.link.committed i with writeRefused := true }))) ∧
    (∀ i : Index, i.toNat = 0x010A + 32 * w.val → s.byteFrame = .write i →
      (∀ p : ForeignPolicy, stopped → b = p.byte → taken i { s.windows[w] with policy := p }) ∧
      (¬ stopped ∨ 3 ≤ b.toNat → exec (.windowConfigWrite b) s =
        .next (s.quiet.withLink { s.link.committed i with writeRefused := true })))

/-- R160, R5, R23, R186, R122: the byte that commits a window's base, twin or size code, with the lower bytes that the frame
wrote and, for those it did not write, the bytes the field holds, lowest first. The value is held as written while DISABLED;
refused while SUSPENDED if tests 4 to 6 of ENABLE would fail, and in every other state. A change of a SUSPENDED window
answers RETRY to every write not yet issued that lies in the ranges before or after it, which lifts their claims (R122);
writing the value held changes nothing. -/
def Obligations.RangeBytesCommitByWindowState : Prop :=
  ∀ (s : State) (w : WindowId) (i : Index) (b0 b1 b2 b3 : Byte) (after : Window), s.bootInProgress = false →
    s.byteFrame = .write i →
    (i.toNat = 0x0103 + 32 * w.val ∧ s.lowerBytes (.windowBase w) i [b0, b1, b2] ∧
        after = { s.windows[w] with base := b3 ++ b2 ++ b1 ++ b0 } ∨
      i.toNat = 0x0107 + 32 * w.val ∧ s.lowerBytes (.windowTwin w) i [b0, b1, b2] ∧
        after = { s.windows[w] with twin := b3 ++ b2 ++ b1 ++ b0 } ∨
      i.toNat = 0x0108 + 32 * w.val ∧ after = { s.windows[w] with sizeCode := b3 }) →
      let before := s.windows[w]
      (before.state = .disabled → exec (.windowConfigWrite b3) s =
        .next { s.quiet with windows := s.windows.set w after, link := s.link.committed i }) ∧
      (before.state = .suspended → after.rangesValid = false → exec (.windowConfigWrite b3) s =
        .next (s.quiet.withLink { s.link.committed i with writeRefused := true })) ∧
      (before.state = .seeding ∨ before.state = .active ∨ before.state = .homing ∨ before.state = .faulted →
        exec (.windowConfigWrite b3) s =
          .next (s.quiet.withLink { s.link.committed i with writeRefused := true })) ∧
      (before.state = .suspended → after = before → after.rangesValid = true → exec (.windowConfigWrite b3) s =
        .next (s.quiet.withLink (s.link.committed i))) ∧
      (before.state = .suspended → after ≠ before → after.rangesValid = true → s.Inv → s.port.offered = [] →
        ∃ t, exec (.windowConfigWrite b3) s = .next t ∧ t.windows = s.windows.set w after ∧
          t.link = s.link.committed i ∧
          s.settlesWrites t (fun a => before.inRanges a || after.inRanges a) .retry ∧ t.events = s.events ∧
          t.groups = s.groups ∧ t.timing = s.timing ∧ t.mem = s.quiet.mem ∧ t.carry.copiers = s.carry.copiers ∧
          s.carry.demand <+: t.carry.demand ∧ t.startUp = s.startUp ∧ t.pins = s.pins)

/-- R81, R182, R160, R65: the byte that commits a group's producers, source, lag or trigger, with the lower bytes that the
frame wrote and, for those it did not write, the bytes the field holds, is taken while the group is OPEN
where the value names one, and refused otherwise; the hold flag is written in every state, and clearing it in an ARMED group
with a CLOSED source sets the late mark. -/
def Obligations.GroupBytesFollowGroupState : Prop :=
  (∀ (s : State) (g : GroupId) (i : Index) (b0 b1 b2 b : Byte) (after : Option Group), s.bootInProgress = false →
    s.byteFrame = .write i →
    (i.toNat = 0x0401 + 16 * g.val ∧ s.lowerBytes (.groupProducers g) i [b0] ∧
        after = some { s.groups[g] with producers := b ++ b0 } ∨
      i.toNat = 0x0402 + 16 * g.val ∧
        ((∃ e : SourceId, b.toNat = e.val ∧ after = some { s.groups[g] with source := e }) ∨
          3 ≤ b.toNat ∧ after = none) ∨
      i.toNat = 0x0403 + 16 * g.val ∧
        (b = 1 ∧ after = some { s.groups[g] with lag := .one } ∨
          b = 2 ∧ after = some { s.groups[g] with lag := .two } ∨ b ≠ 1 ∧ b ≠ 2 ∧ after = none) ∨
      i.toNat = 0x0408 + 16 * g.val ∧ s.lowerBytes (.groupTrigger g) i [b0, b1, b2] ∧
        (b0 = 0 ∧ after = some { s.groups[g] with trigger := none } ∨
          (∃ (w : WindowId) (n : Nat), b0.toNat = w.val + 1 ∧ n = (b ++ b2 ++ b1).toNat ∧ n ≤ 131071 ∧
            after = some { s.groups[g] with trigger := some { window := w, offset := n } }) ∨
          (17 ≤ b0.toNat ∨ b0 ≠ 0 ∧ 131072 ≤ (b ++ b2 ++ b1).toNat) ∧ after = none)) →
      (∀ x, after = some x → s.groups[g].state = .opened → exec (.groupConfigWrite b) s =
        .next { s.quiet with groups := s.groups.set g x, link := s.link.committed i }) ∧
      (after = none ∨ s.groups[g].state ≠ .opened → exec (.groupConfigWrite b) s =
        .next (s.quiet.withLink { s.link.committed i with writeRefused := true }))) ∧
  ∀ (s : State) (g : GroupId) (i : Index) (b : Byte), s.bootInProgress = false → i.toNat = 0x0404 + 16 * g.val →
    s.byteFrame = .write i →
      let x := s.groups[g]
      let closed := s.timing.sources[x.source].phase = .closed
      (b ≠ 0 → exec (.holdWrite b) s =
        .next { s.quiet with groups := s.groups.set g { x with hold := true }, link := s.link.committed i }) ∧
      (b = 0 → x.hold = false → exec (.holdWrite b) s = .next (s.quiet.withLink (s.link.committed i))) ∧
      (b = 0 → x.hold = true → x.state.isArmed = false → exec (.holdWrite b) s =
        .next { s.quiet with groups := s.groups.set g { x with hold := false }, link := s.link.committed i }) ∧
      (∀ c late, b = 0 → x.hold = true → x.state = .armed c late → closed → exec (.holdWrite b) s =
        .next { s.quiet with
          groups := s.groups.set g { x with hold := false, state := .armed c true }
          link := s.link.committed i }) ∧
      (∀ c late, b = 0 → x.hold = true → x.state = .armed c late → ¬ closed → exec (.holdWrite b) s =
        .next { s.quiet with
          groups := s.groups.set g { x with hold := false, state := .armed c late }
          link := s.link.committed i })

/-- R88, R163, R160: the highest byte of a close delay or of a limit commits it with the lower bytes that the frame wrote
and, for those it did not write, the bytes the field holds, lowest first; counter, phase and timer of the source stay, and a
composed limit of 0 is refused. -/
def Obligations.CloseDelaysAndLimitsCommitAtTheirHighestByte : Prop :=
  ∀ (s : State) (i : Index), s.bootInProgress = false → s.byteFrame = .write i →
    (∀ (e : SourceId) (b0 b1 b2 : Byte), i.toNat = 0x0487 + 16 * e.val →
      s.lowerBytes (.sourceCloseDelay e) i [b0, b1] →
      exec (.closeDelayWrite b2) s =
        .next ((s.quiet.setSource e { s.timing.sources[e] with closeDelay := b2 ++ b1 ++ b0 }).withLink
          (s.link.committed i))) ∧
    (∀ lo hi : Byte,
      (i = 0x0005 ∧ s.lowerBytes .holdLimit i [lo] ∨ i = 0x0007 ∧ s.lowerBytes .lockLimit i [lo] ∨
          i = 0x0009 ∧ s.lowerBytes .memoryLimit i [lo] → hi ++ lo = (0 : BitVec 16) →
        exec (.limitWrite hi) s = .next (s.quiet.withLink { s.link.committed i with writeRefused := true })) ∧
      (hi ++ lo ≠ (0 : BitVec 16) →
        (i = 0x0005 → s.lowerBytes .holdLimit i [lo] → exec (.limitWrite hi) s =
          .next (s.quiet.withLink { s.link.committed i with holdLimit := hi ++ lo })) ∧
        (i = 0x0007 → s.lowerBytes .lockLimit i [lo] → exec (.limitWrite hi) s =
          .next (s.quiet.withLink { s.link.committed i with lockLimit := hi ++ lo })) ∧
        (i = 0x0009 → s.lowerBytes .memoryLimit i [lo] → exec (.limitWrite hi) s =
          .next (s.quiet.withLink { s.link.committed i with memoryLimit := hi ++ lo }))))

/-- R153, R154, R149, R162, R160: the fourth byte of the event mask commits it, with the lower bytes that the frame wrote
and, for those it did not write, the bytes the mask holds, the unnamed positions clear, and IRQ_N follows;
a 0 clears the overrun flag, and a 0 clears the write-refused flag. -/
def Obligations.MaskCommitsAndFlagsClear : Prop :=
  ∀ s : State,
    (∀ b0 b1 b2 b3 : Byte, s.bootInProgress = false → s.byteFrame = .write 0x000F →
      s.lowerBytes .eventMask 0x000F [b0, b1, b2] →
        let mask : BitVec 32 := (b3 ++ b2 ++ b1 ++ b0) &&& 0x0007FFFE
        exec (.eventMaskWrite b3) s = .next { s.quiet with
          events := { s.events with
            mask := mask
            irqLow := s.events.records.any fun r => mask.getLsbD r.kind }
          link := s.link.committed 0x000F }) ∧
    (s.bootInProgress = false → s.byteFrame = .write 0x0011 → exec .overrunFlagClear s = .next { s.quiet with
      events := { s.events with overrun := false }
      link := s.link.committed 0x0011 }) ∧
    (s.byteFrame = .write 0x0003 → exec .writeRefusedFlagClear s =
      .next (s.quiet.withLink { s.link.committed 0x0003 with writeRefused := false }))

/-! ## The event queue -/

/-- R147, R148, R154: a record joins the tail while fewer than 32 are held, and IRQ_N goes low if its kind is enabled; at 32
it is discarded, the overrun flag is set and nothing else changes. -/
def Obligations.RecordsJoinTailOrAreDiscarded : Prop :=
  ∀ (s : State) (r : EventRecord), s.events.consistent →
    (s.events.records.length < 32 → s.record r = { s with events := { s.events with
      records := s.events.records ++ [r]
      irqLow := s.events.irqLow || s.events.mask.getLsbD r.kind } }) ∧
    (32 ≤ s.events.records.length → s.record r = { s with events := { s.events with overrun := true } })

/-! ## Resets and the boot load -/

/-- R172: the fall of PWRUP_N puts every block at its power-on values; requests the interconnect holds stay offered (log
7). -/
def Obligations.PowerOnFallRestoresPowerOnValues : Prop :=
  ∀ s : State, s.pins.pwrupLow = false →
    ∃ t, exec .pwrupNFall s = .next t ∧ t.windows = State.reset.windows ∧ t.carry = State.reset.carry ∧
      t.groups = State.reset.groups ∧ t.timing = State.reset.timing ∧ t.locks = State.reset.locks ∧
      t.mem = State.reset.mem ∧ t.events = State.reset.events ∧ t.link = State.reset.link ∧
      t.startUp = State.reset.startUp ∧ t.port = { State.reset.port with offered := s.port.offered } ∧
      t.pins = { s.pins with pwrupLow := true } ∧ t.pending = s.pending

/-- R172 with R30, R55, R82, R92, R129, R143, R155, R113, R114, R115, R171, R179: the fall of RST_N with PWRUP_N high; while
PWRUP_N is low the fall has no effect of its own. Requests the interconnect holds stay offered (log 7). -/
def Obligations.LineResetFallTakesEveryBlock : Prop :=
  ∀ s : State, s.pins.rstLow = false →
    (s.pins.pwrupLow = true → exec .rstNFall s = .next { s.quiet with pins := { s.pins with rstLow := true } }) ∧
    (s.pins.pwrupLow = false →
      ∃ t, exec .rstNFall s = .next t ∧ t.pins = { s.pins with rstLow := true } ∧
        (∀ w : WindowId, t.windows[w] = { s.windows[w] with
          state := (if s.windows[w].state = .disabled then WindowState.disabled else WindowState.suspended)
          faultAddress := none
          dirty := []
          carry := []
          liveReads0 := 0
          liveReads1 := 0 }) ∧
        (∀ g : GroupId, t.groups[g] = { s.groups[g] with hold := false, state := .opened, rollbackPending := false }) ∧
        (∀ e : SourceId, t.timing.sources[e] = { s.timing.sources[e] with
          counter := 0
          phase := .opened
          closeTimer := .stopped }) ∧
        (∀ i : Fin 2, t.timing.lastSample[i] = none ∧ t.timing.edges[i] = false) ∧
        (∀ i : Fin 8, t.port.slots[i] = none) ∧ t.port.responses = [] ∧ t.port.offered = s.port.offered ∧
        (∀ j : Fin 4, t.locks[j] = none) ∧ t.carry.demand = [] ∧ (∀ c : Fin 2, t.carry.copiers[c] = .idle) ∧
        (∀ k : Fin 12, t.mem.slots[k] = match s.mem.slots[k] with
          | .free => .free
          | .pending _ _ _ _ => .fenced 0 s.link.memoryLimit.toNat
          | .fenced n l => .fenced n l) ∧ t.mem.share = 0 ∧ t.events = s.events ∧
        t.link = { State.reset.link with
          holdLimit := s.link.holdLimit
          lockLimit := s.link.lockLimit
          memoryLimit := s.link.memoryLimit } ∧
        t.startUp.read = none ∧ t.startUp.bytes = [] ∧ t.startUp.state = s.startUp.state)

/-- R172, R173, R155, R174, R179: what the releases of PWRUP_N and RST_N start, record or end, where nothing stands offered.
That a release of RST_N while PWRUP_N is low appends no record is the model's choice (log 21), and so is the pointer 0 that
a load begins with (log 16). -/
def Obligations.ReleasesRecordAndStartOrEndBootLoad : Prop :=
  ∀ s : State, s.port.offered = [] →
    let bootRead : BootRead := { address := 0x00000040, beats := 1, granted := false }
    let begun : StartUp := { state := .pointer, read := some bootRead, pointer := 0, bytes := [] }
    let up := s.quiet.withPins { s.pins with pwrupLow := false }
    let released := (s.quiet.withPins { s.pins with rstLow := false }).record (.reset .line)
    (s.pins.pwrupLow = true →
      exec (.pwrupNRelease false) s = .next up ∧
      (s.pins.rstLow = false → exec (.pwrupNRelease true) s = .next (up.withStartUp begun)) ∧
      (s.pins.rstLow = true →
        exec (.pwrupNRelease true) s = .next (up.withStartUp { s.startUp with state := .pending }))) ∧
    (s.pins.rstLow = true → s.pins.pwrupLow = true →
      exec .rstNRelease s = .next (s.quiet.withPins { s.pins with rstLow := false })) ∧
    (s.pins.rstLow = true → s.pins.pwrupLow = false →
      (s.startUp.state = .none ∨ s.startUp.state = .ended → exec .rstNRelease s = .next released) ∧
      (s.startUp.state = .pending → exec .rstNRelease s = .next (released.withStartUp begun)) ∧
      (s.startUp.state = .pointer ∨ s.startUp.state = .image → exec .rstNRelease s =
        .next ((released.record (.bootBad .memory)).withStartUp
          { s.startUp with state := .ended, read := none, bytes := [] })))

/-- R137, R139, R174, R175, R178: what the answers to the controller's reads do: the pointer read, the header read and each
body read, which starts at the first byte not yet read and goes to the end of its line or to the beat that holds the last
byte of the image. A wrong pointer, signature or count, and an ERROR answer to any of the reads, end the load with BOOT_BAD
of its cause; the answer that brings the last byte hands the whole image to its tests. -/
def Obligations.BootReadsFetchPointerHeaderAndBody : Prop :=
  let ended := fun (s : State) (cause : BootCause) => (s.record (.bootBad cause)).withStartUp
    { s.startUp with state := .ended, read := none, bytes := [] }
  (∀ (s : State) (k : Fin 12) (q : MemRequest) (n l : Nat) (data : List Beat),
    s.mem.slots[k] = .pending q .startUp n l → q.kind = .read → data.length = q.beats → s.port.offered = [] →
    (∀ i : Fin 8, s.port.slots[i] = none) →
      exec (.memResponse k .okay data) s = .next ((s.quiet.setMemSlot k .free).bootResult true data) ∧
      exec (.memResponse k .error []) s = .next (ended (s.quiet.setMemSlot k .free) .memory)) ∧
  (∀ d : Beat, beatBytes d = [d.extractLsb' 0 8, d.extractLsb' 8 8, d.extractLsb' 16 8, d.extractLsb' 24 8,
    d.extractLsb' 32 8, d.extractLsb' 40 8, d.extractLsb' 48 8, d.extractLsb' 56 8]) ∧
  (∀ bytes : List Byte,
    imageLength bytes = 8 + 16 * (bytes.getD 5 0).toNat + 16 * (bytes.getD 4 0).toNat + 4) ∧
  (∀ (s : State) (d : Beat),
    let pointer : Address := d.setWidth 32
    let start := s.startUp.pointer + 8
    let length := 8 + 16 * (d.extractLsb' 40 8).toNat + 16 * (d.extractLsb' 32 8).toNat + 4
    (s.startUp.state = .pointer →
      (pointer.toNat % 8 ≠ 0 → s.bootResult true [d] = ended s .pointer) ∧
      (pointer.toNat % 8 = 0 → s.bootResult true [d] = s.withStartUp
        { state := .image
          read := some { address := pointer, beats := 1, granted := false }
          pointer := pointer
          bytes := [] })) ∧
    (s.startUp.state = .image → s.startUp.bytes = [] →
      (d.setWidth 32 ≠ (0x32544645 : BitVec 32) ∨ d.extractLsb' 48 16 ≠ 0 → s.bootResult true [d] = ended s .signature) ∧
      (d.setWidth 32 = (0x32544645 : BitVec 32) → d.extractLsb' 48 16 = 0 →
        (16 < (d.extractLsb' 32 8).toNat ∨ 4 < (d.extractLsb' 40 8).toNat → s.bootResult true [d] = ended s .count) ∧
        ((d.extractLsb' 32 8).toNat ≤ 16 → (d.extractLsb' 40 8).toNat ≤ 4 → s.bootResult true [d] = s.withStartUp
          { s.startUp with
            bytes := beatBytes d
            read := some
              { address := start
                beats := min ((64 - start.toNat % 64) / 8) (((length + 7) / 8 * 8 - 8) / 8)
                granted := false } })))) ∧
  ∀ (s : State) (data : List Beat), s.startUp.state = .image → s.startUp.bytes ≠ [] →
    let bytes := s.startUp.bytes ++ data.flatMap beatBytes
    let start := s.startUp.pointer + BitVec.ofNat 32 bytes.length
    (bytes.length < imageLength bytes → s.bootResult true data = s.withStartUp
      { s.startUp with
        bytes := bytes
        read := some
          { address := start
            beats := min ((64 - start.toNat % 64) / 8) (((imageLength bytes + 7) / 8 * 8 - bytes.length) / 8)
            granted := false } }) ∧
    (imageLength bytes ≤ bytes.length → s.bootResult true data = s.bootApply bytes)

/-- R176, R177, R178, R185: the tests of a whole image in their order, and what a good image does: its group records and
then its window records are applied in image order, a value that names nothing leaving its field; each window it marks is
given ENABLE, W0 first, a refused one changing nothing; and BOOT_DONE is recorded. A wrong sum or record number ends the
load with BOOT_BAD and applies nothing. -/
def Obligations.BootImageIsTestedAndApplied : Prop :=
  (wordSum [] = 0 ∧ ∀ (a b c d : Byte) (rest : List Byte),
    wordSum (a :: b :: c :: d :: rest) = (d ++ c ++ b ++ a : BitVec 32) + wordSum rest) ∧
  (∀ bytes : List Byte,
    let at_ := fun n : Nat => bytes.getD n 0
    let groups := (at_ 5).toNat
    let windows := (at_ 4).toNat
    let sum := wordSum (bytes.take (imageLength bytes))
    let groupWrong := ∃ i, i < groups ∧ 3 < (at_ (8 + 16 * i)).toNat
    let windowWrong := ∃ i, i < windows ∧ 15 < (at_ (8 + 16 * groups + 16 * i)).toNat
    (sum ≠ 0 → imageFailure bytes = some .checksum) ∧
    (sum = 0 → groupWrong ∨ windowWrong → imageFailure bytes = some .count) ∧
    (sum = 0 → ¬ groupWrong → ¬ windowWrong → imageFailure bytes = none)) ∧
  (∀ (s : State) (bytes : List Byte),
    (∀ cause, imageFailure bytes = some cause → s.bootApply bytes =
      (s.record (.bootBad cause)).withStartUp { s.startUp with state := .ended, read := none, bytes := [] }) ∧
    (imageFailure bytes = none → s.bootApply bytes =
      (((places 16).foldl State.enableAtBootLoad (s.applyImage bytes)).record .bootDone).withStartUp
        { s.startUp with state := .ended, read := none, bytes := [] }) ∧
    s.applyImage bytes = (List.range (bytes.getD 4 0).toNat).foldl (State.applyWindowRecord bytes)
      ((List.range (bytes.getD 5 0).toNat).foldl (State.applyGroupRecord bytes) s)) ∧
  (∀ (s : State) (bytes : List Byte) (i : Nat) (g : GroupId),
    let at_ := fun n : Nat => bytes.getD (8 + 16 * i + n) 0
    (at_ 0).toNat = g.val →
      ∃ x : Group, State.applyGroupRecord bytes s i = s.setGroup g x ∧
        x = { s.groups[g] with
          producers := at_ 2 ++ at_ 1
          source := x.source
          lag := x.lag
          hold := decide (at_ 5 ≠ 0)
          trigger := x.trigger } ∧
        (∀ e : SourceId, (at_ 3).toNat = e.val → x.source = e) ∧
        (3 ≤ (at_ 3).toNat → x.source = s.groups[g].source) ∧
        (at_ 4 = 1 → x.lag = .one) ∧ (at_ 4 = 2 → x.lag = .two) ∧ (at_ 4 ≠ 1 → at_ 4 ≠ 2 → x.lag = s.groups[g].lag) ∧
        (at_ 6 = 0 → x.trigger = none) ∧
        (∀ (w : WindowId) (n : Nat), at_ 6 ≠ 0 → (at_ 7).toNat = w.val → n = (at_ 10 ++ at_ 9 ++ at_ 8).toNat → n ≤ 131071 →
          x.trigger = some { window := w, offset := n }) ∧
        (at_ 6 ≠ 0 → 16 ≤ (at_ 7).toNat ∨ 131072 ≤ (at_ 10 ++ at_ 9 ++ at_ 8).toNat → x.trigger = s.groups[g].trigger)) ∧
  (∀ (s : State) (bytes : List Byte) (i : Nat) (w : WindowId),
    let at_ := fun n : Nat => bytes.getD (8 + 16 * (bytes.getD 5 0).toNat + 16 * i + n) 0
    (at_ 0).toNat = w.val →
      ∃ x : Window, State.applyWindowRecord bytes s i = s.setWindow w x ∧
        x = { s.windows[w] with
          base := at_ 4 ++ at_ 3 ++ at_ 2 ++ at_ 1
          twin := at_ 8 ++ at_ 7 ++ at_ 6 ++ at_ 5
          sizeCode := at_ 9
          group := x.group
          policy := x.policy
          enableAtBoot := decide (at_ 12 ≠ 0) } ∧
        (∀ g : GroupId, (at_ 10).toNat = g.val → x.group = g) ∧ (4 ≤ (at_ 10).toNat → x.group = s.windows[w].group) ∧
        (∀ p : ForeignPolicy, at_ 11 = p.byte → x.policy = p) ∧ (3 ≤ (at_ 11).toNat → x.policy = s.windows[w].policy)) ∧
  ∀ (s : State) (w : WindowId),
    (s.windows[w].enableAtBoot = false ∨ s.enableTest w ≠ .accepted → State.enableAtBootLoad s w = s) ∧
    (s.windows[w].enableAtBoot = true → s.enableTest w = .accepted → s.port.offered = [] →
      (∀ i : Fin 8, s.port.slots[i] = none) → s.groups[s.windows[w].group].state ≠ .blocked →
        State.enableAtBootLoad s w = s.setWindow w { s.windows[w] with
          state := .seeding
          dirty := []
          carry := List.range (2 ^ (s.windows[w].sizeCode.toNat - 6))
          faultAddress := none })

end
end

