-- ==== Sys2Proof/Laws/State.lean ====
section
/-! SUPPORT. What each update of the state leaves: one lemma for each field of each update, true by `rfl`, so that no proof
unfolds a record update. -/

namespace Sys2Proof.Machine

/-! ## Replacing a block -/

@[simp] theorem State.withWindows_windows (s : State) (x : Vector Window 16) : (s.withWindows x).windows = x := rfl
@[simp] theorem State.withWindows_carry (s : State) (x : Vector Window 16) : (s.withWindows x).carry = s.carry := rfl
@[simp] theorem State.withWindows_groups (s : State) (x : Vector Window 16) : (s.withWindows x).groups = s.groups := rfl
@[simp] theorem State.withWindows_timing (s : State) (x : Vector Window 16) : (s.withWindows x).timing = s.timing := rfl
@[simp] theorem State.withWindows_port (s : State) (x : Vector Window 16) : (s.withWindows x).port = s.port := rfl
@[simp] theorem State.withWindows_locks (s : State) (x : Vector Window 16) : (s.withWindows x).locks = s.locks := rfl
@[simp] theorem State.withWindows_mem (s : State) (x : Vector Window 16) : (s.withWindows x).mem = s.mem := rfl
@[simp] theorem State.withWindows_events (s : State) (x : Vector Window 16) : (s.withWindows x).events = s.events := rfl
@[simp] theorem State.withWindows_link (s : State) (x : Vector Window 16) : (s.withWindows x).link = s.link := rfl
@[simp] theorem State.withWindows_startUp (s : State) (x : Vector Window 16) : (s.withWindows x).startUp = s.startUp := rfl
@[simp] theorem State.withWindows_pins (s : State) (x : Vector Window 16) : (s.withWindows x).pins = s.pins := rfl
@[simp] theorem State.withWindows_freeUses (s : State) (x : Vector Window 16) : (s.withWindows x).freeUses = s.freeUses := rfl
@[simp] theorem State.withWindows_pending (s : State) (x : Vector Window 16) : (s.withWindows x).pending = s.pending := rfl

@[simp] theorem State.withCarry_windows (s : State) (x : CarryEngine) : (s.withCarry x).windows = s.windows := rfl
@[simp] theorem State.withCarry_carry (s : State) (x : CarryEngine) : (s.withCarry x).carry = x := rfl
@[simp] theorem State.withCarry_groups (s : State) (x : CarryEngine) : (s.withCarry x).groups = s.groups := rfl
@[simp] theorem State.withCarry_timing (s : State) (x : CarryEngine) : (s.withCarry x).timing = s.timing := rfl
@[simp] theorem State.withCarry_port (s : State) (x : CarryEngine) : (s.withCarry x).port = s.port := rfl
@[simp] theorem State.withCarry_locks (s : State) (x : CarryEngine) : (s.withCarry x).locks = s.locks := rfl
@[simp] theorem State.withCarry_mem (s : State) (x : CarryEngine) : (s.withCarry x).mem = s.mem := rfl
@[simp] theorem State.withCarry_events (s : State) (x : CarryEngine) : (s.withCarry x).events = s.events := rfl
@[simp] theorem State.withCarry_link (s : State) (x : CarryEngine) : (s.withCarry x).link = s.link := rfl
@[simp] theorem State.withCarry_startUp (s : State) (x : CarryEngine) : (s.withCarry x).startUp = s.startUp := rfl
@[simp] theorem State.withCarry_pins (s : State) (x : CarryEngine) : (s.withCarry x).pins = s.pins := rfl
@[simp] theorem State.withCarry_freeUses (s : State) (x : CarryEngine) : (s.withCarry x).freeUses = s.freeUses := rfl
@[simp] theorem State.withCarry_pending (s : State) (x : CarryEngine) : (s.withCarry x).pending = s.pending := rfl

@[simp] theorem State.withGroups_windows (s : State) (x : Vector Group 4) : (s.withGroups x).windows = s.windows := rfl
@[simp] theorem State.withGroups_carry (s : State) (x : Vector Group 4) : (s.withGroups x).carry = s.carry := rfl
@[simp] theorem State.withGroups_groups (s : State) (x : Vector Group 4) : (s.withGroups x).groups = x := rfl
@[simp] theorem State.withGroups_timing (s : State) (x : Vector Group 4) : (s.withGroups x).timing = s.timing := rfl
@[simp] theorem State.withGroups_port (s : State) (x : Vector Group 4) : (s.withGroups x).port = s.port := rfl
@[simp] theorem State.withGroups_locks (s : State) (x : Vector Group 4) : (s.withGroups x).locks = s.locks := rfl
@[simp] theorem State.withGroups_mem (s : State) (x : Vector Group 4) : (s.withGroups x).mem = s.mem := rfl
@[simp] theorem State.withGroups_events (s : State) (x : Vector Group 4) : (s.withGroups x).events = s.events := rfl
@[simp] theorem State.withGroups_link (s : State) (x : Vector Group 4) : (s.withGroups x).link = s.link := rfl
@[simp] theorem State.withGroups_startUp (s : State) (x : Vector Group 4) : (s.withGroups x).startUp = s.startUp := rfl
@[simp] theorem State.withGroups_pins (s : State) (x : Vector Group 4) : (s.withGroups x).pins = s.pins := rfl
@[simp] theorem State.withGroups_freeUses (s : State) (x : Vector Group 4) : (s.withGroups x).freeUses = s.freeUses := rfl
@[simp] theorem State.withGroups_pending (s : State) (x : Vector Group 4) : (s.withGroups x).pending = s.pending := rfl

@[simp] theorem State.withTiming_windows (s : State) (x : EpochTiming) : (s.withTiming x).windows = s.windows := rfl
@[simp] theorem State.withTiming_carry (s : State) (x : EpochTiming) : (s.withTiming x).carry = s.carry := rfl
@[simp] theorem State.withTiming_groups (s : State) (x : EpochTiming) : (s.withTiming x).groups = s.groups := rfl
@[simp] theorem State.withTiming_timing (s : State) (x : EpochTiming) : (s.withTiming x).timing = x := rfl
@[simp] theorem State.withTiming_port (s : State) (x : EpochTiming) : (s.withTiming x).port = s.port := rfl
@[simp] theorem State.withTiming_locks (s : State) (x : EpochTiming) : (s.withTiming x).locks = s.locks := rfl
@[simp] theorem State.withTiming_mem (s : State) (x : EpochTiming) : (s.withTiming x).mem = s.mem := rfl
@[simp] theorem State.withTiming_events (s : State) (x : EpochTiming) : (s.withTiming x).events = s.events := rfl
@[simp] theorem State.withTiming_link (s : State) (x : EpochTiming) : (s.withTiming x).link = s.link := rfl
@[simp] theorem State.withTiming_startUp (s : State) (x : EpochTiming) : (s.withTiming x).startUp = s.startUp := rfl
@[simp] theorem State.withTiming_pins (s : State) (x : EpochTiming) : (s.withTiming x).pins = s.pins := rfl
@[simp] theorem State.withTiming_freeUses (s : State) (x : EpochTiming) : (s.withTiming x).freeUses = s.freeUses := rfl
@[simp] theorem State.withTiming_pending (s : State) (x : EpochTiming) : (s.withTiming x).pending = s.pending := rfl

@[simp] theorem State.withPort_windows (s : State) (x : SystemPort) : (s.withPort x).windows = s.windows := rfl
@[simp] theorem State.withPort_carry (s : State) (x : SystemPort) : (s.withPort x).carry = s.carry := rfl
@[simp] theorem State.withPort_groups (s : State) (x : SystemPort) : (s.withPort x).groups = s.groups := rfl
@[simp] theorem State.withPort_timing (s : State) (x : SystemPort) : (s.withPort x).timing = s.timing := rfl
@[simp] theorem State.withPort_port (s : State) (x : SystemPort) : (s.withPort x).port = x := rfl
@[simp] theorem State.withPort_locks (s : State) (x : SystemPort) : (s.withPort x).locks = s.locks := rfl
@[simp] theorem State.withPort_mem (s : State) (x : SystemPort) : (s.withPort x).mem = s.mem := rfl
@[simp] theorem State.withPort_events (s : State) (x : SystemPort) : (s.withPort x).events = s.events := rfl
@[simp] theorem State.withPort_link (s : State) (x : SystemPort) : (s.withPort x).link = s.link := rfl
@[simp] theorem State.withPort_startUp (s : State) (x : SystemPort) : (s.withPort x).startUp = s.startUp := rfl
@[simp] theorem State.withPort_pins (s : State) (x : SystemPort) : (s.withPort x).pins = s.pins := rfl
@[simp] theorem State.withPort_freeUses (s : State) (x : SystemPort) : (s.withPort x).freeUses = s.freeUses := rfl
@[simp] theorem State.withPort_pending (s : State) (x : SystemPort) : (s.withPort x).pending = s.pending := rfl

@[simp] theorem State.withLocks_windows (s : State) (x : Vector (Option Lock) 4) : (s.withLocks x).windows = s.windows := rfl
@[simp] theorem State.withLocks_carry (s : State) (x : Vector (Option Lock) 4) : (s.withLocks x).carry = s.carry := rfl
@[simp] theorem State.withLocks_groups (s : State) (x : Vector (Option Lock) 4) : (s.withLocks x).groups = s.groups := rfl
@[simp] theorem State.withLocks_timing (s : State) (x : Vector (Option Lock) 4) : (s.withLocks x).timing = s.timing := rfl
@[simp] theorem State.withLocks_port (s : State) (x : Vector (Option Lock) 4) : (s.withLocks x).port = s.port := rfl
@[simp] theorem State.withLocks_locks (s : State) (x : Vector (Option Lock) 4) : (s.withLocks x).locks = x := rfl
@[simp] theorem State.withLocks_mem (s : State) (x : Vector (Option Lock) 4) : (s.withLocks x).mem = s.mem := rfl
@[simp] theorem State.withLocks_events (s : State) (x : Vector (Option Lock) 4) : (s.withLocks x).events = s.events := rfl
@[simp] theorem State.withLocks_link (s : State) (x : Vector (Option Lock) 4) : (s.withLocks x).link = s.link := rfl
@[simp] theorem State.withLocks_startUp (s : State) (x : Vector (Option Lock) 4) : (s.withLocks x).startUp = s.startUp := rfl
@[simp] theorem State.withLocks_pins (s : State) (x : Vector (Option Lock) 4) : (s.withLocks x).pins = s.pins := rfl
@[simp] theorem State.withLocks_freeUses (s : State) (x : Vector (Option Lock) 4) : (s.withLocks x).freeUses = s.freeUses := rfl
@[simp] theorem State.withLocks_pending (s : State) (x : Vector (Option Lock) 4) : (s.withLocks x).pending = s.pending := rfl

@[simp] theorem State.withMem_windows (s : State) (x : MemoryPort) : (s.withMem x).windows = s.windows := rfl
@[simp] theorem State.withMem_carry (s : State) (x : MemoryPort) : (s.withMem x).carry = s.carry := rfl
@[simp] theorem State.withMem_groups (s : State) (x : MemoryPort) : (s.withMem x).groups = s.groups := rfl
@[simp] theorem State.withMem_timing (s : State) (x : MemoryPort) : (s.withMem x).timing = s.timing := rfl
@[simp] theorem State.withMem_port (s : State) (x : MemoryPort) : (s.withMem x).port = s.port := rfl
@[simp] theorem State.withMem_locks (s : State) (x : MemoryPort) : (s.withMem x).locks = s.locks := rfl
@[simp] theorem State.withMem_mem (s : State) (x : MemoryPort) : (s.withMem x).mem = x := rfl
@[simp] theorem State.withMem_events (s : State) (x : MemoryPort) : (s.withMem x).events = s.events := rfl
@[simp] theorem State.withMem_link (s : State) (x : MemoryPort) : (s.withMem x).link = s.link := rfl
@[simp] theorem State.withMem_startUp (s : State) (x : MemoryPort) : (s.withMem x).startUp = s.startUp := rfl
@[simp] theorem State.withMem_pins (s : State) (x : MemoryPort) : (s.withMem x).pins = s.pins := rfl
@[simp] theorem State.withMem_freeUses (s : State) (x : MemoryPort) : (s.withMem x).freeUses = s.freeUses := rfl
@[simp] theorem State.withMem_pending (s : State) (x : MemoryPort) : (s.withMem x).pending = s.pending := rfl

@[simp] theorem State.withEvents_windows (s : State) (x : EventQueue) : (s.withEvents x).windows = s.windows := rfl
@[simp] theorem State.withEvents_carry (s : State) (x : EventQueue) : (s.withEvents x).carry = s.carry := rfl
@[simp] theorem State.withEvents_groups (s : State) (x : EventQueue) : (s.withEvents x).groups = s.groups := rfl
@[simp] theorem State.withEvents_timing (s : State) (x : EventQueue) : (s.withEvents x).timing = s.timing := rfl
@[simp] theorem State.withEvents_port (s : State) (x : EventQueue) : (s.withEvents x).port = s.port := rfl
@[simp] theorem State.withEvents_locks (s : State) (x : EventQueue) : (s.withEvents x).locks = s.locks := rfl
@[simp] theorem State.withEvents_mem (s : State) (x : EventQueue) : (s.withEvents x).mem = s.mem := rfl
@[simp] theorem State.withEvents_events (s : State) (x : EventQueue) : (s.withEvents x).events = x := rfl
@[simp] theorem State.withEvents_link (s : State) (x : EventQueue) : (s.withEvents x).link = s.link := rfl
@[simp] theorem State.withEvents_startUp (s : State) (x : EventQueue) : (s.withEvents x).startUp = s.startUp := rfl
@[simp] theorem State.withEvents_pins (s : State) (x : EventQueue) : (s.withEvents x).pins = s.pins := rfl
@[simp] theorem State.withEvents_freeUses (s : State) (x : EventQueue) : (s.withEvents x).freeUses = s.freeUses := rfl
@[simp] theorem State.withEvents_pending (s : State) (x : EventQueue) : (s.withEvents x).pending = s.pending := rfl

@[simp] theorem State.withLink_windows (s : State) (x : Link) : (s.withLink x).windows = s.windows := rfl
@[simp] theorem State.withLink_carry (s : State) (x : Link) : (s.withLink x).carry = s.carry := rfl
@[simp] theorem State.withLink_groups (s : State) (x : Link) : (s.withLink x).groups = s.groups := rfl
@[simp] theorem State.withLink_timing (s : State) (x : Link) : (s.withLink x).timing = s.timing := rfl
@[simp] theorem State.withLink_port (s : State) (x : Link) : (s.withLink x).port = s.port := rfl
@[simp] theorem State.withLink_locks (s : State) (x : Link) : (s.withLink x).locks = s.locks := rfl
@[simp] theorem State.withLink_mem (s : State) (x : Link) : (s.withLink x).mem = s.mem := rfl
@[simp] theorem State.withLink_events (s : State) (x : Link) : (s.withLink x).events = s.events := rfl
@[simp] theorem State.withLink_link (s : State) (x : Link) : (s.withLink x).link = x := rfl
@[simp] theorem State.withLink_startUp (s : State) (x : Link) : (s.withLink x).startUp = s.startUp := rfl
@[simp] theorem State.withLink_pins (s : State) (x : Link) : (s.withLink x).pins = s.pins := rfl
@[simp] theorem State.withLink_freeUses (s : State) (x : Link) : (s.withLink x).freeUses = s.freeUses := rfl
@[simp] theorem State.withLink_pending (s : State) (x : Link) : (s.withLink x).pending = s.pending := rfl

@[simp] theorem State.withStartUp_windows (s : State) (x : StartUp) : (s.withStartUp x).windows = s.windows := rfl
@[simp] theorem State.withStartUp_carry (s : State) (x : StartUp) : (s.withStartUp x).carry = s.carry := rfl
@[simp] theorem State.withStartUp_groups (s : State) (x : StartUp) : (s.withStartUp x).groups = s.groups := rfl
@[simp] theorem State.withStartUp_timing (s : State) (x : StartUp) : (s.withStartUp x).timing = s.timing := rfl
@[simp] theorem State.withStartUp_port (s : State) (x : StartUp) : (s.withStartUp x).port = s.port := rfl
@[simp] theorem State.withStartUp_locks (s : State) (x : StartUp) : (s.withStartUp x).locks = s.locks := rfl
@[simp] theorem State.withStartUp_mem (s : State) (x : StartUp) : (s.withStartUp x).mem = s.mem := rfl
@[simp] theorem State.withStartUp_events (s : State) (x : StartUp) : (s.withStartUp x).events = s.events := rfl
@[simp] theorem State.withStartUp_link (s : State) (x : StartUp) : (s.withStartUp x).link = s.link := rfl
@[simp] theorem State.withStartUp_startUp (s : State) (x : StartUp) : (s.withStartUp x).startUp = x := rfl
@[simp] theorem State.withStartUp_pins (s : State) (x : StartUp) : (s.withStartUp x).pins = s.pins := rfl
@[simp] theorem State.withStartUp_freeUses (s : State) (x : StartUp) : (s.withStartUp x).freeUses = s.freeUses := rfl
@[simp] theorem State.withStartUp_pending (s : State) (x : StartUp) : (s.withStartUp x).pending = s.pending := rfl

@[simp] theorem State.withPins_windows (s : State) (x : Pins) : (s.withPins x).windows = s.windows := rfl
@[simp] theorem State.withPins_carry (s : State) (x : Pins) : (s.withPins x).carry = s.carry := rfl
@[simp] theorem State.withPins_groups (s : State) (x : Pins) : (s.withPins x).groups = s.groups := rfl
@[simp] theorem State.withPins_timing (s : State) (x : Pins) : (s.withPins x).timing = s.timing := rfl
@[simp] theorem State.withPins_port (s : State) (x : Pins) : (s.withPins x).port = s.port := rfl
@[simp] theorem State.withPins_locks (s : State) (x : Pins) : (s.withPins x).locks = s.locks := rfl
@[simp] theorem State.withPins_mem (s : State) (x : Pins) : (s.withPins x).mem = s.mem := rfl
@[simp] theorem State.withPins_events (s : State) (x : Pins) : (s.withPins x).events = s.events := rfl
@[simp] theorem State.withPins_link (s : State) (x : Pins) : (s.withPins x).link = s.link := rfl
@[simp] theorem State.withPins_startUp (s : State) (x : Pins) : (s.withPins x).startUp = s.startUp := rfl
@[simp] theorem State.withPins_pins (s : State) (x : Pins) : (s.withPins x).pins = x := rfl
@[simp] theorem State.withPins_freeUses (s : State) (x : Pins) : (s.withPins x).freeUses = s.freeUses := rfl
@[simp] theorem State.withPins_pending (s : State) (x : Pins) : (s.withPins x).pending = s.pending := rfl

@[simp] theorem State.withFreeUses_windows (s : State) (x : Nat) : (s.withFreeUses x).windows = s.windows := rfl
@[simp] theorem State.withFreeUses_carry (s : State) (x : Nat) : (s.withFreeUses x).carry = s.carry := rfl
@[simp] theorem State.withFreeUses_groups (s : State) (x : Nat) : (s.withFreeUses x).groups = s.groups := rfl
@[simp] theorem State.withFreeUses_timing (s : State) (x : Nat) : (s.withFreeUses x).timing = s.timing := rfl
@[simp] theorem State.withFreeUses_port (s : State) (x : Nat) : (s.withFreeUses x).port = s.port := rfl
@[simp] theorem State.withFreeUses_locks (s : State) (x : Nat) : (s.withFreeUses x).locks = s.locks := rfl
@[simp] theorem State.withFreeUses_mem (s : State) (x : Nat) : (s.withFreeUses x).mem = s.mem := rfl
@[simp] theorem State.withFreeUses_events (s : State) (x : Nat) : (s.withFreeUses x).events = s.events := rfl
@[simp] theorem State.withFreeUses_link (s : State) (x : Nat) : (s.withFreeUses x).link = s.link := rfl
@[simp] theorem State.withFreeUses_startUp (s : State) (x : Nat) : (s.withFreeUses x).startUp = s.startUp := rfl
@[simp] theorem State.withFreeUses_pins (s : State) (x : Nat) : (s.withFreeUses x).pins = s.pins := rfl
@[simp] theorem State.withFreeUses_freeUses (s : State) (x : Nat) : (s.withFreeUses x).freeUses = x := rfl
@[simp] theorem State.withFreeUses_pending (s : State) (x : Nat) : (s.withFreeUses x).pending = s.pending := rfl

@[simp] theorem State.withPending_windows (s : State) (x : List Instr) : (s.withPending x).windows = s.windows := rfl
@[simp] theorem State.withPending_carry (s : State) (x : List Instr) : (s.withPending x).carry = s.carry := rfl
@[simp] theorem State.withPending_groups (s : State) (x : List Instr) : (s.withPending x).groups = s.groups := rfl
@[simp] theorem State.withPending_timing (s : State) (x : List Instr) : (s.withPending x).timing = s.timing := rfl
@[simp] theorem State.withPending_port (s : State) (x : List Instr) : (s.withPending x).port = s.port := rfl
@[simp] theorem State.withPending_locks (s : State) (x : List Instr) : (s.withPending x).locks = s.locks := rfl
@[simp] theorem State.withPending_mem (s : State) (x : List Instr) : (s.withPending x).mem = s.mem := rfl
@[simp] theorem State.withPending_events (s : State) (x : List Instr) : (s.withPending x).events = s.events := rfl
@[simp] theorem State.withPending_link (s : State) (x : List Instr) : (s.withPending x).link = s.link := rfl
@[simp] theorem State.withPending_startUp (s : State) (x : List Instr) : (s.withPending x).startUp = s.startUp := rfl
@[simp] theorem State.withPending_pins (s : State) (x : List Instr) : (s.withPending x).pins = s.pins := rfl
@[simp] theorem State.withPending_freeUses (s : State) (x : List Instr) : (s.withPending x).freeUses = s.freeUses := rfl
@[simp] theorem State.withPending_pending (s : State) (x : List Instr) : (s.withPending x).pending = x := rfl

/-! ## Replacing a record of a block -/

@[simp] theorem State.setWindow_carry (s : State) (w : WindowId) (x : Window) : (s.setWindow w x).carry = s.carry := rfl
@[simp] theorem State.setWindow_groups (s : State) (w : WindowId) (x : Window) : (s.setWindow w x).groups = s.groups := rfl
@[simp] theorem State.setWindow_timing (s : State) (w : WindowId) (x : Window) : (s.setWindow w x).timing = s.timing := rfl
@[simp] theorem State.setWindow_port (s : State) (w : WindowId) (x : Window) : (s.setWindow w x).port = s.port := rfl
@[simp] theorem State.setWindow_locks (s : State) (w : WindowId) (x : Window) : (s.setWindow w x).locks = s.locks := rfl
@[simp] theorem State.setWindow_mem (s : State) (w : WindowId) (x : Window) : (s.setWindow w x).mem = s.mem := rfl
@[simp] theorem State.setWindow_events (s : State) (w : WindowId) (x : Window) : (s.setWindow w x).events = s.events := rfl
@[simp] theorem State.setWindow_link (s : State) (w : WindowId) (x : Window) : (s.setWindow w x).link = s.link := rfl
@[simp] theorem State.setWindow_startUp (s : State) (w : WindowId) (x : Window) : (s.setWindow w x).startUp = s.startUp := rfl
@[simp] theorem State.setWindow_pins (s : State) (w : WindowId) (x : Window) : (s.setWindow w x).pins = s.pins := rfl
@[simp] theorem State.setWindow_freeUses (s : State) (w : WindowId) (x : Window) :
    (s.setWindow w x).freeUses = s.freeUses := rfl
@[simp] theorem State.setWindow_pending (s : State) (w : WindowId) (x : Window) : (s.setWindow w x).pending = s.pending := rfl
@[simp] theorem State.setWindow_windows (s : State) (w : WindowId) (x : Window) :
    (s.setWindow w x).windows = s.windows.set w x := rfl

@[simp] theorem State.setGroup_windows (s : State) (g : GroupId) (x : Group) : (s.setGroup g x).windows = s.windows := rfl
@[simp] theorem State.setGroup_carry (s : State) (g : GroupId) (x : Group) : (s.setGroup g x).carry = s.carry := rfl
@[simp] theorem State.setGroup_timing (s : State) (g : GroupId) (x : Group) : (s.setGroup g x).timing = s.timing := rfl
@[simp] theorem State.setGroup_port (s : State) (g : GroupId) (x : Group) : (s.setGroup g x).port = s.port := rfl
@[simp] theorem State.setGroup_locks (s : State) (g : GroupId) (x : Group) : (s.setGroup g x).locks = s.locks := rfl
@[simp] theorem State.setGroup_mem (s : State) (g : GroupId) (x : Group) : (s.setGroup g x).mem = s.mem := rfl
@[simp] theorem State.setGroup_events (s : State) (g : GroupId) (x : Group) : (s.setGroup g x).events = s.events := rfl
@[simp] theorem State.setGroup_link (s : State) (g : GroupId) (x : Group) : (s.setGroup g x).link = s.link := rfl
@[simp] theorem State.setGroup_startUp (s : State) (g : GroupId) (x : Group) : (s.setGroup g x).startUp = s.startUp := rfl
@[simp] theorem State.setGroup_pins (s : State) (g : GroupId) (x : Group) : (s.setGroup g x).pins = s.pins := rfl
@[simp] theorem State.setGroup_freeUses (s : State) (g : GroupId) (x : Group) : (s.setGroup g x).freeUses = s.freeUses := rfl
@[simp] theorem State.setGroup_pending (s : State) (g : GroupId) (x : Group) : (s.setGroup g x).pending = s.pending := rfl
@[simp] theorem State.setGroup_groups (s : State) (g : GroupId) (x : Group) : (s.setGroup g x).groups = s.groups.set g x := rfl

@[simp] theorem State.setLock_windows (s : State) (j : Fin 4) (x : Option Lock) : (s.setLock j x).windows = s.windows := rfl
@[simp] theorem State.setLock_carry (s : State) (j : Fin 4) (x : Option Lock) : (s.setLock j x).carry = s.carry := rfl
@[simp] theorem State.setLock_groups (s : State) (j : Fin 4) (x : Option Lock) : (s.setLock j x).groups = s.groups := rfl
@[simp] theorem State.setLock_timing (s : State) (j : Fin 4) (x : Option Lock) : (s.setLock j x).timing = s.timing := rfl
@[simp] theorem State.setLock_port (s : State) (j : Fin 4) (x : Option Lock) : (s.setLock j x).port = s.port := rfl
@[simp] theorem State.setLock_mem (s : State) (j : Fin 4) (x : Option Lock) : (s.setLock j x).mem = s.mem := rfl
@[simp] theorem State.setLock_events (s : State) (j : Fin 4) (x : Option Lock) : (s.setLock j x).events = s.events := rfl
@[simp] theorem State.setLock_link (s : State) (j : Fin 4) (x : Option Lock) : (s.setLock j x).link = s.link := rfl
@[simp] theorem State.setLock_startUp (s : State) (j : Fin 4) (x : Option Lock) : (s.setLock j x).startUp = s.startUp := rfl
@[simp] theorem State.setLock_pins (s : State) (j : Fin 4) (x : Option Lock) : (s.setLock j x).pins = s.pins := rfl
@[simp] theorem State.setLock_freeUses (s : State) (j : Fin 4) (x : Option Lock) : (s.setLock j x).freeUses = s.freeUses := rfl
@[simp] theorem State.setLock_pending (s : State) (j : Fin 4) (x : Option Lock) : (s.setLock j x).pending = s.pending := rfl
@[simp] theorem State.setLock_locks (s : State) (j : Fin 4) (x : Option Lock) : (s.setLock j x).locks = s.locks.set j x := rfl

@[simp] theorem State.setSource_windows (s : State) (e : SourceId) (x : Source) : (s.setSource e x).windows = s.windows := rfl
@[simp] theorem State.setSource_carry (s : State) (e : SourceId) (x : Source) : (s.setSource e x).carry = s.carry := rfl
@[simp] theorem State.setSource_groups (s : State) (e : SourceId) (x : Source) : (s.setSource e x).groups = s.groups := rfl
@[simp] theorem State.setSource_port (s : State) (e : SourceId) (x : Source) : (s.setSource e x).port = s.port := rfl
@[simp] theorem State.setSource_locks (s : State) (e : SourceId) (x : Source) : (s.setSource e x).locks = s.locks := rfl
@[simp] theorem State.setSource_mem (s : State) (e : SourceId) (x : Source) : (s.setSource e x).mem = s.mem := rfl
@[simp] theorem State.setSource_events (s : State) (e : SourceId) (x : Source) : (s.setSource e x).events = s.events := rfl
@[simp] theorem State.setSource_link (s : State) (e : SourceId) (x : Source) : (s.setSource e x).link = s.link := rfl
@[simp] theorem State.setSource_startUp (s : State) (e : SourceId) (x : Source) : (s.setSource e x).startUp = s.startUp := rfl
@[simp] theorem State.setSource_pins (s : State) (e : SourceId) (x : Source) : (s.setSource e x).pins = s.pins := rfl
@[simp] theorem State.setSource_freeUses (s : State) (e : SourceId) (x : Source) :
    (s.setSource e x).freeUses = s.freeUses := rfl
@[simp] theorem State.setSource_pending (s : State) (e : SourceId) (x : Source) : (s.setSource e x).pending = s.pending := rfl
@[simp] theorem State.setSource_sources (s : State) (e : SourceId) (x : Source) :
    (s.setSource e x).timing.sources = s.timing.sources.set e x := rfl
@[simp] theorem State.setSource_lastSample (s : State) (e : SourceId) (x : Source) :
    (s.setSource e x).timing.lastSample = s.timing.lastSample := rfl
@[simp] theorem State.setSource_edges (s : State) (e : SourceId) (x : Source) :
    (s.setSource e x).timing.edges = s.timing.edges := rfl

@[simp] theorem State.setSlot_windows (s : State) (i : Fin 8) (x : Option Transfer) : (s.setSlot i x).windows = s.windows := rfl
@[simp] theorem State.setSlot_carry (s : State) (i : Fin 8) (x : Option Transfer) : (s.setSlot i x).carry = s.carry := rfl
@[simp] theorem State.setSlot_groups (s : State) (i : Fin 8) (x : Option Transfer) : (s.setSlot i x).groups = s.groups := rfl
@[simp] theorem State.setSlot_timing (s : State) (i : Fin 8) (x : Option Transfer) : (s.setSlot i x).timing = s.timing := rfl
@[simp] theorem State.setSlot_locks (s : State) (i : Fin 8) (x : Option Transfer) : (s.setSlot i x).locks = s.locks := rfl
@[simp] theorem State.setSlot_mem (s : State) (i : Fin 8) (x : Option Transfer) : (s.setSlot i x).mem = s.mem := rfl
@[simp] theorem State.setSlot_events (s : State) (i : Fin 8) (x : Option Transfer) : (s.setSlot i x).events = s.events := rfl
@[simp] theorem State.setSlot_link (s : State) (i : Fin 8) (x : Option Transfer) : (s.setSlot i x).link = s.link := rfl
@[simp] theorem State.setSlot_startUp (s : State) (i : Fin 8) (x : Option Transfer) : (s.setSlot i x).startUp = s.startUp := rfl
@[simp] theorem State.setSlot_pins (s : State) (i : Fin 8) (x : Option Transfer) : (s.setSlot i x).pins = s.pins := rfl
@[simp] theorem State.setSlot_freeUses (s : State) (i : Fin 8) (x : Option Transfer) :
    (s.setSlot i x).freeUses = s.freeUses := rfl
@[simp] theorem State.setSlot_pending (s : State) (i : Fin 8) (x : Option Transfer) : (s.setSlot i x).pending = s.pending := rfl
@[simp] theorem State.setSlot_slots (s : State) (i : Fin 8) (x : Option Transfer) :
    (s.setSlot i x).port.slots = s.port.slots.set i x := rfl
@[simp] theorem State.setSlot_nextAcceptance (s : State) (i : Fin 8) (x : Option Transfer) :
    (s.setSlot i x).port.nextAcceptance = s.port.nextAcceptance := rfl
@[simp] theorem State.setSlot_offered (s : State) (i : Fin 8) (x : Option Transfer) :
    (s.setSlot i x).port.offered = s.port.offered := rfl
@[simp] theorem State.setSlot_responses (s : State) (i : Fin 8) (x : Option Transfer) :
    (s.setSlot i x).port.responses = s.port.responses := rfl

@[simp] theorem State.setMemSlot_windows (s : State) (k : Fin 12) (x : MemSlot) : (s.setMemSlot k x).windows = s.windows := rfl
@[simp] theorem State.setMemSlot_carry (s : State) (k : Fin 12) (x : MemSlot) : (s.setMemSlot k x).carry = s.carry := rfl
@[simp] theorem State.setMemSlot_groups (s : State) (k : Fin 12) (x : MemSlot) : (s.setMemSlot k x).groups = s.groups := rfl
@[simp] theorem State.setMemSlot_timing (s : State) (k : Fin 12) (x : MemSlot) : (s.setMemSlot k x).timing = s.timing := rfl
@[simp] theorem State.setMemSlot_port (s : State) (k : Fin 12) (x : MemSlot) : (s.setMemSlot k x).port = s.port := rfl
@[simp] theorem State.setMemSlot_locks (s : State) (k : Fin 12) (x : MemSlot) : (s.setMemSlot k x).locks = s.locks := rfl
@[simp] theorem State.setMemSlot_events (s : State) (k : Fin 12) (x : MemSlot) : (s.setMemSlot k x).events = s.events := rfl
@[simp] theorem State.setMemSlot_link (s : State) (k : Fin 12) (x : MemSlot) : (s.setMemSlot k x).link = s.link := rfl
@[simp] theorem State.setMemSlot_startUp (s : State) (k : Fin 12) (x : MemSlot) : (s.setMemSlot k x).startUp = s.startUp := rfl
@[simp] theorem State.setMemSlot_pins (s : State) (k : Fin 12) (x : MemSlot) : (s.setMemSlot k x).pins = s.pins := rfl
@[simp] theorem State.setMemSlot_freeUses (s : State) (k : Fin 12) (x : MemSlot) :
    (s.setMemSlot k x).freeUses = s.freeUses := rfl
@[simp] theorem State.setMemSlot_pending (s : State) (k : Fin 12) (x : MemSlot) : (s.setMemSlot k x).pending = s.pending := rfl
@[simp] theorem State.setMemSlot_slots (s : State) (k : Fin 12) (x : MemSlot) :
    (s.setMemSlot k x).mem.slots = s.mem.slots.set k x := rfl
@[simp] theorem State.setMemSlot_share (s : State) (k : Fin 12) (x : MemSlot) :
    (s.setMemSlot k x).mem.share = s.mem.share := rfl
@[simp] theorem State.setMemSlot_presented (s : State) (k : Fin 12) (x : MemSlot) :
    (s.setMemSlot k x).mem.presented = s.mem.presented := rfl

@[simp] theorem State.setCopier_windows (s : State) (c : Fin 2) (x : Copier) : (s.setCopier c x).windows = s.windows := rfl
@[simp] theorem State.setCopier_groups (s : State) (c : Fin 2) (x : Copier) : (s.setCopier c x).groups = s.groups := rfl
@[simp] theorem State.setCopier_timing (s : State) (c : Fin 2) (x : Copier) : (s.setCopier c x).timing = s.timing := rfl
@[simp] theorem State.setCopier_port (s : State) (c : Fin 2) (x : Copier) : (s.setCopier c x).port = s.port := rfl
@[simp] theorem State.setCopier_locks (s : State) (c : Fin 2) (x : Copier) : (s.setCopier c x).locks = s.locks := rfl
@[simp] theorem State.setCopier_mem (s : State) (c : Fin 2) (x : Copier) : (s.setCopier c x).mem = s.mem := rfl
@[simp] theorem State.setCopier_events (s : State) (c : Fin 2) (x : Copier) : (s.setCopier c x).events = s.events := rfl
@[simp] theorem State.setCopier_link (s : State) (c : Fin 2) (x : Copier) : (s.setCopier c x).link = s.link := rfl
@[simp] theorem State.setCopier_startUp (s : State) (c : Fin 2) (x : Copier) : (s.setCopier c x).startUp = s.startUp := rfl
@[simp] theorem State.setCopier_pins (s : State) (c : Fin 2) (x : Copier) : (s.setCopier c x).pins = s.pins := rfl
@[simp] theorem State.setCopier_freeUses (s : State) (c : Fin 2) (x : Copier) : (s.setCopier c x).freeUses = s.freeUses := rfl
@[simp] theorem State.setCopier_pending (s : State) (c : Fin 2) (x : Copier) : (s.setCopier c x).pending = s.pending := rfl
@[simp] theorem State.setCopier_copiers (s : State) (c : Fin 2) (x : Copier) :
    (s.setCopier c x).carry.copiers = s.carry.copiers.set c x := rfl
@[simp] theorem State.setCopier_demand (s : State) (c : Fin 2) (x : Copier) :
    (s.setCopier c x).carry.demand = s.carry.demand := rfl
@[simp] theorem State.setCopier_nextTake (s : State) (c : Fin 2) (x : Copier) :
    (s.setCopier c x).carry.nextTake = s.carry.nextTake := rfl

@[simp] theorem State.withDemand_windows (s : State) (x : List DemandEntry) : (s.withDemand x).windows = s.windows := rfl
@[simp] theorem State.withDemand_groups (s : State) (x : List DemandEntry) : (s.withDemand x).groups = s.groups := rfl
@[simp] theorem State.withDemand_timing (s : State) (x : List DemandEntry) : (s.withDemand x).timing = s.timing := rfl
@[simp] theorem State.withDemand_port (s : State) (x : List DemandEntry) : (s.withDemand x).port = s.port := rfl
@[simp] theorem State.withDemand_locks (s : State) (x : List DemandEntry) : (s.withDemand x).locks = s.locks := rfl
@[simp] theorem State.withDemand_mem (s : State) (x : List DemandEntry) : (s.withDemand x).mem = s.mem := rfl
@[simp] theorem State.withDemand_events (s : State) (x : List DemandEntry) : (s.withDemand x).events = s.events := rfl
@[simp] theorem State.withDemand_link (s : State) (x : List DemandEntry) : (s.withDemand x).link = s.link := rfl
@[simp] theorem State.withDemand_startUp (s : State) (x : List DemandEntry) : (s.withDemand x).startUp = s.startUp := rfl
@[simp] theorem State.withDemand_pins (s : State) (x : List DemandEntry) : (s.withDemand x).pins = s.pins := rfl
@[simp] theorem State.withDemand_freeUses (s : State) (x : List DemandEntry) : (s.withDemand x).freeUses = s.freeUses := rfl
@[simp] theorem State.withDemand_pending (s : State) (x : List DemandEntry) : (s.withDemand x).pending = s.pending := rfl
@[simp] theorem State.withDemand_demand (s : State) (x : List DemandEntry) : (s.withDemand x).carry.demand = x := rfl
@[simp] theorem State.withDemand_copiers (s : State) (x : List DemandEntry) :
    (s.withDemand x).carry.copiers = s.carry.copiers := rfl
@[simp] theorem State.withDemand_nextTake (s : State) (x : List DemandEntry) :
    (s.withDemand x).carry.nextTake = s.carry.nextTake := rfl

/-! ## Clearing the outputs -/

@[simp] theorem State.quiet_windows (s : State) : s.quiet.windows = s.windows := rfl
@[simp] theorem State.quiet_carry (s : State) : s.quiet.carry = s.carry := rfl
@[simp] theorem State.quiet_groups (s : State) : s.quiet.groups = s.groups := rfl
@[simp] theorem State.quiet_timing (s : State) : s.quiet.timing = s.timing := rfl
@[simp] theorem State.quiet_locks (s : State) : s.quiet.locks = s.locks := rfl
@[simp] theorem State.quiet_events (s : State) : s.quiet.events = s.events := rfl
@[simp] theorem State.quiet_link (s : State) : s.quiet.link = s.link := rfl
@[simp] theorem State.quiet_startUp (s : State) : s.quiet.startUp = s.startUp := rfl
@[simp] theorem State.quiet_pins (s : State) : s.quiet.pins = s.pins := rfl
@[simp] theorem State.quiet_freeUses (s : State) : s.quiet.freeUses = s.freeUses := rfl
@[simp] theorem State.quiet_pending (s : State) : s.quiet.pending = s.pending := rfl
@[simp] theorem State.quiet_port_slots (s : State) : s.quiet.port.slots = s.port.slots := rfl
@[simp] theorem State.quiet_port_nextAcceptance (s : State) : s.quiet.port.nextAcceptance = s.port.nextAcceptance := rfl
@[simp] theorem State.quiet_port_offered (s : State) : s.quiet.port.offered = s.port.offered := rfl
@[simp] theorem State.quiet_mem_slots (s : State) : s.quiet.mem.slots = s.mem.slots := rfl
@[simp] theorem State.quiet_mem_share (s : State) : s.quiet.mem.share = s.mem.share := rfl
@[simp] theorem State.quiet_responses (s : State) : s.quiet.port.responses = [] := rfl
@[simp] theorem State.quiet_presented (s : State) : s.quiet.mem.presented = none := rfl

end Sys2Proof.Machine
end

