-- ==== Sys2Proof/Laws/Ops.lean ====
section
/-! SUPPORT. What each shared operation can do, said once: tables and their places, line sets, the event queue, and for each
operation on the state the blocks it leaves unchanged. -/

namespace Sys2Proof.Machine

/-! ## The invariants as one proposition -/

/-- The promises of `State.Inv` together, as one decidable proposition. -/
theorem State.inv_iff (s : State) : s.Inv ↔
    s.everyWindow Window.consistent ∧ s.blockedMatchesFaults ∧ s.transfersTested ∧ s.pendingWritesRouted ∧
      s.pendingReadsAddressed ∧ s.offeredOnlyWhenClosed ∧ s.ownedCopiesCarried ∧ s.copiesApart ∧ s.bootQuiet ∧
      s.resetQuiet := by
  constructor
  · intro h
    exact ⟨h.windows, h.groups, h.transfers, h.pendingWrites, h.pendingReads, h.offered, h.copies, h.copiers, h.boot, h.reset⟩
  · rintro ⟨windows, groups, transfers, writes, reads, offered, copies, copiers, boot, reset⟩
    constructor <;> assumption

/-! ## Tables -/

@[simp] theorem mapTable_getElem {α : Type} {n : Nat} (f : Fin n → α → α) (v : Vector α n) (i : Nat) (h : i < n) :
    (mapTable f v)[i] = f ⟨i, h⟩ v[i] := by
  simp [mapTable]

@[simp] theorem mapTable_getElem_fin {α : Type} {n : Nat} (f : Fin n → α → α) (v : Vector α n) (i : Fin n) :
    (mapTable f v)[i] = f i v[i] := by
  simp [mapTable]

@[simp] theorem mem_places {n : Nat} (i : Fin n) : i ∈ places n := by
  simp [places, List.mem_ofFn]

theorem mem_placesWhere {α : Type} {n : Nat} (p : α → Bool) (v : Vector α n) (i : Fin n) :
    i ∈ placesWhere p v ↔ p v[i] = true := by
  simp [placesWhere]

theorem places_sorted (n : Nat) : (places n).Pairwise (· < ·) := by
  rw [places, List.pairwise_ofFn]
  exact fun _ _ h => h

/-- The first place that satisfies a test: it does, and no lower place does. -/
theorem placesWhere_head_some {α : Type} {n : Nat} (p : α → Bool) (v : Vector α n) (i : Fin n) :
    (placesWhere p v).head? = some i ↔ p v[i] = true ∧ ∀ j : Fin n, j < i → p v[j] = false := by
  have sorted : (placesWhere p v).Pairwise (· < ·) := (places_sorted n).filter _
  constructor
  · intro h
    obtain ⟨rest, hl⟩ : ∃ rest, placesWhere p v = i :: rest := by
      cases hp : placesWhere p v with
      | nil => simp [hp] at h
      | cons a rest => simp [hp] at h; exact ⟨rest, by rw [h]⟩
    refine ⟨(mem_placesWhere p v i).1 (by simp [hl]), fun j hj => ?_⟩
    by_contra hp
    have hm : j ∈ placesWhere p v := (mem_placesWhere p v j).2 (by simpa using hp)
    rw [hl] at hm sorted
    rcases List.mem_cons.1 hm with rfl | hm
    · exact absurd hj (lt_irrefl _)
    · exact absurd ((List.pairwise_cons.1 sorted).1 j hm) (not_lt.2 hj.le)
  · rintro ⟨hi, hlow⟩
    have hm := (mem_placesWhere p v i).2 hi
    cases hl : placesWhere p v with
    | nil => simp [hl] at hm
    | cons a rest =>
      rw [hl] at hm sorted
      have ha : p v[a] = true := (mem_placesWhere p v a).1 (by simp [hl])
      rcases List.mem_cons.1 hm with rfl | hm
      · rfl
      · exact absurd ((hlow a ((List.pairwise_cons.1 sorted).1 i hm)).symm.trans ha) (by simp)

/-- No place satisfies a test. -/
theorem placesWhere_head_none {α : Type} {n : Nat} (p : α → Bool) (v : Vector α n) :
    (placesWhere p v).head? = none ↔ ∀ i : Fin n, p v[i] = false := by
  rw [List.head?_eq_none_iff, List.eq_nil_iff_forall_not_mem]
  simp [mem_placesWhere]

/-- What every step of a walk over places keeps, the walk keeps. -/
theorem foldl_keeps {α β : Type} (P : α → Prop) (f : α → β → α) (keeps : ∀ a b, P a → P (f a b)) (l : List β) (a : α)
    (h : P a) : P (l.foldl f a) := by
  induction l generalizing a with
  | nil => exact h
  | cons b l ih => exact ih _ (keeps a b h)

/-! ## Line sets (R31) -/

theorem LineSet.mem_insert (line x : Nat) (l : LineSet) : x ∈ LineSet.insert line l ↔ x = line ∨ x ∈ l := by
  induction l with
  | nil => simp [LineSet.insert]
  | cons a l ih =>
    unfold LineSet.insert
    split
    · simp
    · split
      · simp_all
      · simp only [List.mem_cons, ih]; tauto

theorem LineSet.insert_ascending (line : Nat) (l : LineSet) (h : LineSet.ascending l) :
    LineSet.ascending (LineSet.insert line l) := by
  induction l with
  | nil => simp [LineSet.insert]
  | cons a l ih =>
    have ha := List.pairwise_cons.1 h
    unfold LineSet.insert
    split
    · rename_i hlt
      exact List.pairwise_cons.2 ⟨fun x hx => by
        rcases List.mem_cons.1 hx with rfl | hx
        · exact hlt
        · exact hlt.trans (ha.1 x hx), h⟩
    · split
      · exact h
      · rename_i h1 h2
        refine List.pairwise_cons.2 ⟨fun x hx => ?_, ih ha.2⟩
        rcases (LineSet.mem_insert line x l).1 hx with rfl | hx
        · omega
        · exact ha.1 x hx

theorem LineSet.mem_remove (line x : Nat) (l : LineSet) : x ∈ LineSet.remove line l ↔ x ∈ l ∧ x ≠ line := by
  simp [LineSet.remove]

theorem LineSet.remove_ascending (line : Nat) (l : LineSet) (h : LineSet.ascending l) :
    LineSet.ascending (LineSet.remove line l) :=
  h.filter _

theorem LineSet.mem_union (x : Nat) (l m : LineSet) : x ∈ LineSet.union l m ↔ x ∈ l ∨ x ∈ m := by
  induction l generalizing m with
  | nil => simp [LineSet.union]
  | cons a l ih =>
    have := ih (LineSet.insert a m)
    simp only [LineSet.union, List.foldl_cons, LineSet.mem_insert] at this ⊢
    rw [this]; simp only [List.mem_cons]; tauto

theorem LineSet.union_ascending (l m : LineSet) (h : LineSet.ascending m) : LineSet.ascending (LineSet.union l m) :=
  foldl_keeps LineSet.ascending _ (fun _ _ h => LineSet.insert_ascending _ _ h) l m h

/-! ## The event queue (R147, R148, R154) -/

theorem EventQueue.append_records_length (q : EventQueue) (r : EventRecord) :
    q.records.length ≤ Config.eventCapacity → (q.append r).records.length ≤ Config.eventCapacity := by
  unfold EventQueue.append
  split
  · simp only [List.length_append, List.length_singleton]; omega
  · exact id

theorem EventQueue.append_consistent (q : EventQueue) (r : EventRecord) (h : q.consistent) : (q.append r).consistent := by
  refine ⟨EventQueue.append_records_length q r h.1, ?_, ?_⟩ <;> unfold EventQueue.append <;> split
  · exact h.2.1
  · exact h.2.1
  · rfl
  · exact h.2.2

end Sys2Proof.Machine
end

