-- ==== Sys2Proof/Laws/Frames.lean ====
section
/-! SUPPORT. The frame of each shared operation: the blocks it leaves unchanged, said once for every proof to cite. -/

namespace Sys2Proof.Machine

/-! ## Records, arming, responses -/

@[simp] theorem State.record_frame (s : State) (r : EventRecord) :
    (s.record r).windows = s.windows ∧ (s.record r).carry = s.carry ∧ (s.record r).groups = s.groups ∧
    (s.record r).timing = s.timing ∧ (s.record r).port = s.port ∧ (s.record r).locks = s.locks ∧ (s.record r).mem = s.mem ∧
    (s.record r).link = s.link ∧ (s.record r).startUp = s.startUp ∧ (s.record r).pins = s.pins ∧
    (s.record r).freeUses = s.freeUses ∧ (s.record r).pending = s.pending ∧ (s.record r).events = s.events.append r := by
  simp [State.record]

@[simp] theorem State.recordAll_frame (s : State) (r : Option EventRecord) :
    (s.recordAll r).windows = s.windows ∧ (s.recordAll r).carry = s.carry ∧ (s.recordAll r).groups = s.groups ∧
    (s.recordAll r).timing = s.timing ∧ (s.recordAll r).port = s.port ∧ (s.recordAll r).locks = s.locks ∧
    (s.recordAll r).mem = s.mem ∧ (s.recordAll r).link = s.link ∧ (s.recordAll r).startUp = s.startUp ∧
    (s.recordAll r).pins = s.pins ∧ (s.recordAll r).freeUses = s.freeUses ∧ (s.recordAll r).pending = s.pending := by
  cases r <;> simp [State.recordAll]

@[simp] theorem State.arm_frame (s : State) (g : GroupId) (m : Option MasterId) :
    (s.arm g m).windows = s.windows ∧ (s.arm g m).carry = s.carry ∧ (s.arm g m).timing = s.timing ∧
    (s.arm g m).port = s.port ∧ (s.arm g m).locks = s.locks ∧ (s.arm g m).mem = s.mem ∧ (s.arm g m).link = s.link ∧
    (s.arm g m).startUp = s.startUp ∧ (s.arm g m).pins = s.pins ∧ (s.arm g m).freeUses = s.freeUses ∧
    (s.arm g m).pending = s.pending := by
  unfold State.arm; split <;> simp

@[simp] theorem State.respond_frame (s : State) (r : Request) (st : Status) (data : List Beat) :
    (s.respond r st data).windows = s.windows ∧ (s.respond r st data).carry = s.carry ∧
    (s.respond r st data).groups = s.groups ∧ (s.respond r st data).timing = s.timing ∧
    (s.respond r st data).locks = s.locks ∧ (s.respond r st data).mem = s.mem ∧ (s.respond r st data).events = s.events ∧
    (s.respond r st data).link = s.link ∧ (s.respond r st data).startUp = s.startUp ∧ (s.respond r st data).pins = s.pins ∧
    (s.respond r st data).freeUses = s.freeUses ∧ (s.respond r st data).pending = s.pending ∧
    (s.respond r st data).port.slots = s.port.slots ∧ (s.respond r st data).port.nextAcceptance = s.port.nextAcceptance ∧
    (s.respond r st data).port.offered = s.port.offered := by
  simp [State.respond]

@[simp] theorem State.settleLock_frame (s : State) (r : Request) (st : Status) :
    (s.settleLock r st).windows = s.windows ∧ (s.settleLock r st).carry = s.carry ∧ (s.settleLock r st).groups = s.groups ∧
    (s.settleLock r st).timing = s.timing ∧ (s.settleLock r st).port = s.port ∧ (s.settleLock r st).mem = s.mem ∧
    (s.settleLock r st).events = s.events ∧ (s.settleLock r st).link = s.link ∧ (s.settleLock r st).startUp = s.startUp ∧
    (s.settleLock r st).pins = s.pins ∧ (s.settleLock r st).freeUses = s.freeUses ∧
    (s.settleLock r st).pending = s.pending := by
  unfold State.settleLock; split <;> simp

theorem State.respond_responses (s : State) (r : Request) (st : Status) (data : List Beat) :
    (s.respond r st data).port.responses = s.port.responses ++
      [{ master := r.master, tag := r.tag, status := st, data := responseData r st data }] := rfl

@[simp] theorem State.uncount_frame (s : State) (t : Transfer) :
    (s.uncount t).carry = s.carry ∧ (s.uncount t).groups = s.groups ∧ (s.uncount t).timing = s.timing ∧
    (s.uncount t).port = s.port ∧ (s.uncount t).locks = s.locks ∧ (s.uncount t).mem = s.mem ∧
    (s.uncount t).events = s.events ∧ (s.uncount t).link = s.link ∧ (s.uncount t).startUp = s.startUp ∧
    (s.uncount t).pins = s.pins ∧ (s.uncount t).freeUses = s.freeUses ∧ (s.uncount t).pending = s.pending := by
  unfold State.uncount; split <;> simp

@[simp] theorem State.armByAnswer_frame (s : State) (t : Transfer) (st : Status) :
    (s.armByAnswer t st).windows = s.windows ∧ (s.armByAnswer t st).carry = s.carry ∧
    (s.armByAnswer t st).timing = s.timing ∧ (s.armByAnswer t st).port = s.port ∧ (s.armByAnswer t st).locks = s.locks ∧
    (s.armByAnswer t st).mem = s.mem ∧ (s.armByAnswer t st).link = s.link ∧ (s.armByAnswer t st).startUp = s.startUp ∧
    (s.armByAnswer t st).pins = s.pins ∧ (s.armByAnswer t st).freeUses = s.freeUses ∧
    (s.armByAnswer t st).pending = s.pending := by
  unfold State.armByAnswer; split <;> simp

@[simp] theorem State.answerNow_frame (s : State) (r : Request) (st : Status) :
    (s.answerNow r st).windows = s.windows ∧ (s.answerNow r st).carry = s.carry ∧ (s.answerNow r st).groups = s.groups ∧
    (s.answerNow r st).timing = s.timing ∧ (s.answerNow r st).mem = s.mem ∧ (s.answerNow r st).events = s.events ∧
    (s.answerNow r st).link = s.link ∧ (s.answerNow r st).startUp = s.startUp ∧ (s.answerNow r st).pins = s.pins ∧
    (s.answerNow r st).freeUses = s.freeUses ∧ (s.answerNow r st).pending = s.pending ∧
    (s.answerNow r st).port.slots = s.port.slots ∧ (s.answerNow r st).port.nextAcceptance = s.port.nextAcceptance ∧
    (s.answerNow r st).port.offered = s.port.offered := by
  simp [State.answerNow]

@[simp] theorem State.answer_frame (s : State) (i : Fin 8) (st : Status) (data : List Beat) :
    (s.answer i st data).carry = s.carry ∧ (s.answer i st data).timing = s.timing ∧ (s.answer i st data).mem = s.mem ∧
    (s.answer i st data).link = s.link ∧ (s.answer i st data).startUp = s.startUp ∧ (s.answer i st data).pins = s.pins ∧
    (s.answer i st data).freeUses = s.freeUses ∧ (s.answer i st data).pending = s.pending ∧
    (s.answer i st data).port.nextAcceptance = s.port.nextAcceptance ∧
    (s.answer i st data).port.offered = s.port.offered := by
  unfold State.answer; split <;> simp [State.setSlot]

/-! ## Waits -/

@[simp] theorem State.dropEntry_frame (s : State) (w : WindowId) (line : Nat) :
    (s.dropEntry w line).windows = s.windows ∧ (s.dropEntry w line).groups = s.groups ∧
    (s.dropEntry w line).timing = s.timing ∧ (s.dropEntry w line).port = s.port ∧ (s.dropEntry w line).locks = s.locks ∧
    (s.dropEntry w line).mem = s.mem ∧ (s.dropEntry w line).events = s.events ∧ (s.dropEntry w line).link = s.link ∧
    (s.dropEntry w line).startUp = s.startUp ∧ (s.dropEntry w line).pins = s.pins ∧
    (s.dropEntry w line).freeUses = s.freeUses ∧ (s.dropEntry w line).pending = s.pending ∧
    (s.dropEntry w line).carry.copiers = s.carry.copiers ∧ (s.dropEntry w line).carry.nextTake = s.carry.nextTake := by
  simp [State.dropEntry, State.withDemand]

@[simp] theorem State.makeEntry_frame (s : State) (t : Transfer) :
    (s.makeEntry t).windows = s.windows ∧ (s.makeEntry t).groups = s.groups ∧ (s.makeEntry t).timing = s.timing ∧
    (s.makeEntry t).port = s.port ∧ (s.makeEntry t).locks = s.locks ∧ (s.makeEntry t).mem = s.mem ∧
    (s.makeEntry t).events = s.events ∧ (s.makeEntry t).link = s.link ∧ (s.makeEntry t).startUp = s.startUp ∧
    (s.makeEntry t).pins = s.pins ∧ (s.makeEntry t).freeUses = s.freeUses ∧ (s.makeEntry t).pending = s.pending ∧
    (s.makeEntry t).carry.copiers = s.carry.copiers ∧ (s.makeEntry t).carry.nextTake = s.carry.nextTake := by
  unfold State.makeEntry; split <;> try split
  all_goals simp [State.withDemand]

@[simp] theorem State.makeEntries_frame (s : State) :
    (s.makeEntries).windows = s.windows ∧ (s.makeEntries).groups = s.groups ∧ (s.makeEntries).timing = s.timing ∧
    (s.makeEntries).port = s.port ∧ (s.makeEntries).locks = s.locks ∧ (s.makeEntries).mem = s.mem ∧
    (s.makeEntries).events = s.events ∧ (s.makeEntries).link = s.link ∧ (s.makeEntries).startUp = s.startUp ∧
    (s.makeEntries).pins = s.pins ∧ (s.makeEntries).freeUses = s.freeUses ∧ (s.makeEntries).pending = s.pending ∧
    (s.makeEntries).carry.copiers = s.carry.copiers ∧ (s.makeEntries).carry.nextTake = s.carry.nextTake := by
  unfold State.makeEntries
  refine foldl_keeps (fun a : State =>
      a.windows = s.windows ∧ a.groups = s.groups ∧ a.timing = s.timing ∧ a.port = s.port ∧ a.locks = s.locks ∧
      a.mem = s.mem ∧ a.events = s.events ∧ a.link = s.link ∧ a.startUp = s.startUp ∧ a.pins = s.pins ∧
      a.freeUses = s.freeUses ∧ a.pending = s.pending ∧ a.carry.copiers = s.carry.copiers ∧
      a.carry.nextTake = s.carry.nextTake)
    _ (fun a i h => ?_) _ s (by simp)
  split
  · exact h
  · split
    · simpa using h
    · exact h

@[simp] theorem State.testPhases_frame (s : State) :
    (s.testPhases).windows = s.windows ∧ (s.testPhases).carry = s.carry ∧ (s.testPhases).groups = s.groups ∧
    (s.testPhases).timing = s.timing ∧ (s.testPhases).locks = s.locks ∧ (s.testPhases).mem = s.mem ∧
    (s.testPhases).events = s.events ∧ (s.testPhases).link = s.link ∧ (s.testPhases).startUp = s.startUp ∧
    (s.testPhases).pins = s.pins ∧ (s.testPhases).freeUses = s.freeUses ∧ (s.testPhases).pending = s.pending ∧
    (s.testPhases).port.responses = s.port.responses ∧ (s.testPhases).port.nextAcceptance = s.port.nextAcceptance ∧
    (s.testPhases).port.offered = s.port.offered := by
  simp [State.testPhases]

@[simp] theorem State.retest_frame (s : State) :
    (s.retest).windows = s.windows ∧ (s.retest).groups = s.groups ∧ (s.retest).timing = s.timing ∧
    (s.retest).locks = s.locks ∧ (s.retest).mem = s.mem ∧ (s.retest).events = s.events ∧ (s.retest).link = s.link ∧
    (s.retest).startUp = s.startUp ∧ (s.retest).pins = s.pins ∧ (s.retest).freeUses = s.freeUses ∧
    (s.retest).pending = s.pending ∧ (s.retest).carry.copiers = s.carry.copiers ∧
    (s.retest).carry.nextTake = s.carry.nextTake ∧ (s.retest).port.responses = s.port.responses ∧
    (s.retest).port.nextAcceptance = s.port.nextAcceptance ∧ (s.retest).port.offered = s.port.offered := by
  simp [State.retest]

/-! ## Acceptance -/

@[simp] theorem State.offer_frame (s : State) (r : Request) :
    (s.offer r).windows = s.windows ∧ (s.offer r).carry = s.carry ∧ (s.offer r).groups = s.groups ∧
    (s.offer r).timing = s.timing ∧ (s.offer r).locks = s.locks ∧ (s.offer r).mem = s.mem ∧ (s.offer r).events = s.events ∧
    (s.offer r).link = s.link ∧ (s.offer r).startUp = s.startUp ∧ (s.offer r).pins = s.pins ∧
    (s.offer r).freeUses = s.freeUses ∧ (s.offer r).pending = s.pending ∧ (s.offer r).port.slots = s.port.slots ∧
    (s.offer r).port.nextAcceptance = s.port.nextAcceptance ∧ (s.offer r).port.responses = s.port.responses ∧
    (s.offer r).port.offered = s.port.offered ++ [r] := by
  simp [State.offer]

@[simp] theorem State.countRead_frame (s : State) (t : Transfer) :
    (s.countRead t).carry = s.carry ∧ (s.countRead t).groups = s.groups ∧ (s.countRead t).timing = s.timing ∧
    (s.countRead t).port = s.port ∧ (s.countRead t).locks = s.locks ∧ (s.countRead t).mem = s.mem ∧
    (s.countRead t).events = s.events ∧ (s.countRead t).link = s.link ∧ (s.countRead t).startUp = s.startUp ∧
    (s.countRead t).pins = s.pins ∧ (s.countRead t).freeUses = s.freeUses ∧ (s.countRead t).pending = s.pending := by
  unfold State.countRead; split <;> simp

@[simp] theorem State.takeLock_frame (s : State) (r : Request) :
    (s.takeLock r).windows = s.windows ∧ (s.takeLock r).carry = s.carry ∧ (s.takeLock r).groups = s.groups ∧
    (s.takeLock r).timing = s.timing ∧ (s.takeLock r).port = s.port ∧ (s.takeLock r).mem = s.mem ∧
    (s.takeLock r).events = s.events ∧ (s.takeLock r).link = s.link ∧ (s.takeLock r).startUp = s.startUp ∧
    (s.takeLock r).pins = s.pins ∧ (s.takeLock r).freeUses = s.freeUses ∧ (s.takeLock r).pending = s.pending := by
  unfold State.takeLock
  repeat' split
  all_goals simp

@[simp] theorem State.finishRouting_frame (s : State) (i : Fin 8) (r : Request) (result : Routing) :
    (s.finishRouting i r result).groups = s.groups ∧ (s.finishRouting i r result).timing = s.timing ∧
    (s.finishRouting i r result).mem = s.mem ∧ (s.finishRouting i r result).link = s.link ∧
    (s.finishRouting i r result).startUp = s.startUp ∧ (s.finishRouting i r result).pins = s.pins ∧
    (s.finishRouting i r result).freeUses = s.freeUses ∧ (s.finishRouting i r result).pending = s.pending ∧
    (s.finishRouting i r result).carry.copiers = s.carry.copiers ∧
    (s.finishRouting i r result).carry.nextTake = s.carry.nextTake := by
  unfold State.finishRouting
  split <;> simp [State.setSlot]

@[simp] theorem State.interlockAndRoute_frame (s : State) (i : Fin 8) (r : Request) (n : Nat) :
    (s.interlockAndRoute i r n).groups = s.groups ∧ (s.interlockAndRoute i r n).timing = s.timing ∧
    (s.interlockAndRoute i r n).mem = s.mem ∧ (s.interlockAndRoute i r n).link = s.link ∧
    (s.interlockAndRoute i r n).startUp = s.startUp ∧ (s.interlockAndRoute i r n).pins = s.pins ∧
    (s.interlockAndRoute i r n).freeUses = s.freeUses ∧ (s.interlockAndRoute i r n).pending = s.pending ∧
    (s.interlockAndRoute i r n).carry.copiers = s.carry.copiers ∧
    (s.interlockAndRoute i r n).carry.nextTake = s.carry.nextTake := by
  unfold State.interlockAndRoute
  split <;> simp

@[simp] theorem State.checkRequest_frame (s : State) (i : Fin 8) (r : Request) (n : Nat) :
    (s.checkRequest i r n).groups = s.groups ∧ (s.checkRequest i r n).timing = s.timing ∧
    (s.checkRequest i r n).mem = s.mem ∧ (s.checkRequest i r n).link = s.link ∧
    (s.checkRequest i r n).startUp = s.startUp ∧ (s.checkRequest i r n).pins = s.pins ∧
    (s.checkRequest i r n).freeUses = s.freeUses ∧ (s.checkRequest i r n).pending = s.pending ∧
    (s.checkRequest i r n).carry.copiers = s.carry.copiers ∧ (s.checkRequest i r n).carry.nextTake = s.carry.nextTake := by
  unfold State.checkRequest
  repeat' split
  all_goals simp

@[simp] theorem State.accept_frame (s : State) (i : Fin 8) (r : Request) :
    (s.accept i r).groups = s.groups ∧ (s.accept i r).timing = s.timing ∧ (s.accept i r).mem = s.mem ∧
    (s.accept i r).link = s.link ∧ (s.accept i r).startUp = s.startUp ∧ (s.accept i r).pins = s.pins ∧
    (s.accept i r).freeUses = s.freeUses ∧ (s.accept i r).pending = s.pending ∧
    (s.accept i r).carry.copiers = s.carry.copiers ∧ (s.accept i r).carry.nextTake = s.carry.nextTake := by
  simp [State.accept]

@[simp] theorem State.acceptUpTo_frame (s : State) (n : Nat) :
    (State.acceptUpTo n s).groups = s.groups ∧ (State.acceptUpTo n s).timing = s.timing ∧
    (State.acceptUpTo n s).mem = s.mem ∧ (State.acceptUpTo n s).link = s.link ∧
    (State.acceptUpTo n s).startUp = s.startUp ∧ (State.acceptUpTo n s).pins = s.pins ∧
    (State.acceptUpTo n s).freeUses = s.freeUses ∧ (State.acceptUpTo n s).pending = s.pending ∧
    (State.acceptUpTo n s).carry.copiers = s.carry.copiers ∧ (State.acceptUpTo n s).carry.nextTake = s.carry.nextTake := by
  induction n generalizing s with
  | zero => simp [State.acceptUpTo]
  | succ n ih => unfold State.acceptUpTo; split <;> simp [ih]

@[simp] theorem State.acceptStanding_frame (s : State) :
    (s.acceptStanding).groups = s.groups ∧ (s.acceptStanding).timing = s.timing ∧ (s.acceptStanding).mem = s.mem ∧
    (s.acceptStanding).link = s.link ∧ (s.acceptStanding).startUp = s.startUp ∧ (s.acceptStanding).pins = s.pins ∧
    (s.acceptStanding).freeUses = s.freeUses ∧ (s.acceptStanding).pending = s.pending ∧
    (s.acceptStanding).carry.copiers = s.carry.copiers ∧ (s.acceptStanding).carry.nextTake = s.carry.nextTake := by
  simp [State.acceptStanding]

/-- R97: with nothing offered there is nothing to accept. -/
@[simp] theorem State.acceptStanding_of_none (s : State) (h : s.port.offered = []) : s.acceptStanding = s := by
  simp [State.acceptStanding, h, State.acceptUpTo]

/-! ## The window unit and the publication controller -/

@[simp] theorem State.testRollback_frame (s : State) (g : GroupId) :
    (s.testRollback g).windows = s.windows ∧ (s.testRollback g).carry = s.carry ∧ (s.testRollback g).timing = s.timing ∧
    (s.testRollback g).port = s.port ∧ (s.testRollback g).locks = s.locks ∧ (s.testRollback g).mem = s.mem ∧
    (s.testRollback g).link = s.link ∧ (s.testRollback g).startUp = s.startUp ∧ (s.testRollback g).pins = s.pins ∧
    (s.testRollback g).freeUses = s.freeUses ∧ (s.testRollback g).pending = s.pending := by
  unfold State.testRollback; split <;> simp

@[simp] theorem State.testRollbacks_frame (s : State) :
    (s.testRollbacks).windows = s.windows ∧ (s.testRollbacks).carry = s.carry ∧ (s.testRollbacks).timing = s.timing ∧
    (s.testRollbacks).port = s.port ∧ (s.testRollbacks).locks = s.locks ∧ (s.testRollbacks).mem = s.mem ∧
    (s.testRollbacks).link = s.link ∧ (s.testRollbacks).startUp = s.startUp ∧ (s.testRollbacks).pins = s.pins ∧
    (s.testRollbacks).freeUses = s.freeUses ∧ (s.testRollbacks).pending = s.pending := by
  unfold State.testRollbacks
  refine foldl_keeps (fun a : State =>
      a.windows = s.windows ∧ a.carry = s.carry ∧ a.timing = s.timing ∧ a.port = s.port ∧ a.locks = s.locks ∧
      a.mem = s.mem ∧ a.link = s.link ∧ a.startUp = s.startUp ∧ a.pins = s.pins ∧ a.freeUses = s.freeUses ∧
      a.pending = s.pending)
    _ (fun a i h => ?_) _ s (by simp)
  simpa using h

@[simp] theorem State.blockGroup_frame (s : State) (g : GroupId) :
    (s.blockGroup g).windows = s.windows ∧ (s.blockGroup g).carry = s.carry ∧ (s.blockGroup g).timing = s.timing ∧
    (s.blockGroup g).port = s.port ∧ (s.blockGroup g).locks = s.locks ∧ (s.blockGroup g).mem = s.mem ∧
    (s.blockGroup g).link = s.link ∧ (s.blockGroup g).startUp = s.startUp ∧ (s.blockGroup g).pins = s.pins ∧
    (s.blockGroup g).freeUses = s.freeUses ∧ (s.blockGroup g).pending = s.pending := by
  unfold State.blockGroup; split <;> simp

@[simp] theorem State.unblockGroup_frame (s : State) (g : GroupId) :
    (s.unblockGroup g).windows = s.windows ∧ (s.unblockGroup g).carry = s.carry ∧ (s.unblockGroup g).timing = s.timing ∧
    (s.unblockGroup g).port = s.port ∧ (s.unblockGroup g).locks = s.locks ∧ (s.unblockGroup g).mem = s.mem ∧
    (s.unblockGroup g).events = s.events ∧ (s.unblockGroup g).link = s.link ∧ (s.unblockGroup g).startUp = s.startUp ∧
    (s.unblockGroup g).pins = s.pins ∧ (s.unblockGroup g).freeUses = s.freeUses ∧
    (s.unblockGroup g).pending = s.pending := by
  unfold State.unblockGroup; split <;> try split
  all_goals simp

@[simp] theorem State.settleSlot_frame (s : State) (p : Address → Bool) (st : Status) (i : Fin 8) :
    (State.settleSlot p st s i).carry = s.carry ∧ (State.settleSlot p st s i).timing = s.timing ∧
    (State.settleSlot p st s i).mem = s.mem ∧ (State.settleSlot p st s i).link = s.link ∧
    (State.settleSlot p st s i).startUp = s.startUp ∧ (State.settleSlot p st s i).pins = s.pins ∧
    (State.settleSlot p st s i).freeUses = s.freeUses ∧ (State.settleSlot p st s i).pending = s.pending ∧
    (State.settleSlot p st s i).port.nextAcceptance = s.port.nextAcceptance ∧
    (State.settleSlot p st s i).port.offered = s.port.offered := by
  unfold State.settleSlot; split <;> try split
  all_goals simp

@[simp] theorem State.settleWrites_frame (s : State) (p : Address → Bool) (st : Status) :
    (s.settleWrites p st).carry = s.carry ∧ (s.settleWrites p st).timing = s.timing ∧ (s.settleWrites p st).mem = s.mem ∧
    (s.settleWrites p st).link = s.link ∧ (s.settleWrites p st).startUp = s.startUp ∧ (s.settleWrites p st).pins = s.pins ∧
    (s.settleWrites p st).freeUses = s.freeUses ∧ (s.settleWrites p st).pending = s.pending ∧
    (s.settleWrites p st).port.nextAcceptance = s.port.nextAcceptance ∧
    (s.settleWrites p st).port.offered = s.port.offered := by
  unfold State.settleWrites
  refine foldl_keeps (fun a : State =>
      a.carry = s.carry ∧ a.timing = s.timing ∧ a.mem = s.mem ∧ a.link = s.link ∧ a.startUp = s.startUp ∧
      a.pins = s.pins ∧ a.freeUses = s.freeUses ∧ a.pending = s.pending ∧
      a.port.nextAcceptance = s.port.nextAcceptance ∧ a.port.offered = s.port.offered)
    _ (fun a i h => ?_) _ s (by simp)
  simpa using h

@[simp] theorem State.dropCarryWork_frame (s : State) (w : WindowId) :
    (s.dropCarryWork w).windows = s.windows ∧ (s.dropCarryWork w).groups = s.groups ∧
    (s.dropCarryWork w).timing = s.timing ∧ (s.dropCarryWork w).port = s.port ∧ (s.dropCarryWork w).locks = s.locks ∧
    (s.dropCarryWork w).mem = s.mem ∧ (s.dropCarryWork w).events = s.events ∧ (s.dropCarryWork w).link = s.link ∧
    (s.dropCarryWork w).startUp = s.startUp ∧ (s.dropCarryWork w).pins = s.pins ∧
    (s.dropCarryWork w).freeUses = s.freeUses ∧ (s.dropCarryWork w).pending = s.pending ∧
    (s.dropCarryWork w).carry.nextTake = s.carry.nextTake := by
  simp [State.dropCarryWork]

@[simp] theorem State.endCarry_frame (s : State) (w : WindowId) :
    (s.endCarry w).carry = s.carry ∧ (s.endCarry w).groups = s.groups ∧ (s.endCarry w).timing = s.timing ∧
    (s.endCarry w).port = s.port ∧ (s.endCarry w).locks = s.locks ∧ (s.endCarry w).mem = s.mem ∧
    (s.endCarry w).link = s.link ∧ (s.endCarry w).startUp = s.startUp ∧ (s.endCarry w).pins = s.pins ∧
    (s.endCarry w).freeUses = s.freeUses ∧ (s.endCarry w).pending = s.pending := by
  unfold State.endCarry; split <;> try split
  all_goals simp

@[simp] theorem State.faultWindow_frame (s : State) (w : WindowId) (a : Address) :
    (s.faultWindow w a).timing = s.timing ∧ (s.faultWindow w a).mem = s.mem ∧ (s.faultWindow w a).link = s.link ∧
    (s.faultWindow w a).startUp = s.startUp ∧ (s.faultWindow w a).pins = s.pins ∧
    (s.faultWindow w a).freeUses = s.freeUses ∧ (s.faultWindow w a).pending = s.pending ∧
    (s.faultWindow w a).port.nextAcceptance = s.port.nextAcceptance ∧
    (s.faultWindow w a).port.offered = s.port.offered := by
  simp [State.faultWindow]

@[simp] theorem State.takeBoundary_frame (s : State) (g : GroupId) (n : Epoch) :
    (s.takeBoundary g n).carry = s.carry ∧ (s.takeBoundary g n).timing = s.timing ∧ (s.takeBoundary g n).port = s.port ∧
    (s.takeBoundary g n).locks = s.locks ∧ (s.takeBoundary g n).mem = s.mem ∧ (s.takeBoundary g n).link = s.link ∧
    (s.takeBoundary g n).startUp = s.startUp ∧ (s.takeBoundary g n).pins = s.pins ∧
    (s.takeBoundary g n).freeUses = s.freeUses ∧ (s.takeBoundary g n).pending = s.pending := by
  unfold State.takeBoundary State.flipGroup State.flipMembers
  repeat' split
  all_goals simp

@[simp] theorem State.boundaryAtGroups_frame (s : State) (e : SourceId) (n : Epoch) :
    (s.boundaryAtGroups e n).carry = s.carry ∧ (s.boundaryAtGroups e n).timing = s.timing ∧
    (s.boundaryAtGroups e n).port = s.port ∧ (s.boundaryAtGroups e n).locks = s.locks ∧
    (s.boundaryAtGroups e n).mem = s.mem ∧ (s.boundaryAtGroups e n).link = s.link ∧
    (s.boundaryAtGroups e n).startUp = s.startUp ∧ (s.boundaryAtGroups e n).pins = s.pins ∧
    (s.boundaryAtGroups e n).freeUses = s.freeUses ∧ (s.boundaryAtGroups e n).pending = s.pending := by
  unfold State.boundaryAtGroups
  refine foldl_keeps (fun a : State =>
      a.carry = s.carry ∧ a.timing = s.timing ∧ a.port = s.port ∧ a.locks = s.locks ∧ a.mem = s.mem ∧ a.link = s.link ∧
      a.startUp = s.startUp ∧ a.pins = s.pins ∧ a.freeUses = s.freeUses ∧ a.pending = s.pending)
    _ (fun a i h => ?_) _ s (by simp)
  unfold State.boundaryAtGroup
  split
  · simpa using h
  · exact h

/-- R84: what the samples of a tick leave: the previous samples, the edges found, and the sources as they were. -/
@[simp] theorem EpochTiming.sampled_fields (t : EpochTiming) (levels : Vector Bool 2) :
    (t.sampled levels).sources = t.sources ∧ (∀ i : Fin 2, (t.sampled levels).lastSample[i] = some levels[i]) ∧
      ∀ i : Fin 2, (t.sampled levels).edges[i] = (t.edges[i] || levels[i] && decide (t.lastSample[i] = some false)) := by
  simp [EpochTiming.sampled]

/-- Taking an edge where a sample found none changes nothing. -/
theorem State.clearEdge_of_none (s : State) (i : Fin 2) (h : s.timing.edges[i] = false) : s.clearEdge i = s := by
  have hs : s.timing.edges.set i false = s.timing.edges := by
    ext j hj
    by_cases hji : (i : Nat) = j
    · subst hji; simpa using h.symm
    · rw [Vector.getElem_set_ne _ _ hji]
  simp [State.clearEdge, State.withTiming, hs]

@[simp] theorem State.boundaryOf_frame (s : State) (e : SourceId) :
    (s.boundaryOf e).locks = s.locks ∧ (s.boundaryOf e).mem = s.mem ∧ (s.boundaryOf e).link = s.link ∧
    (s.boundaryOf e).startUp = s.startUp ∧ (s.boundaryOf e).pins = s.pins ∧ (s.boundaryOf e).freeUses = s.freeUses ∧
    (s.boundaryOf e).pending = s.pending ∧ (s.boundaryOf e).carry.copiers = s.carry.copiers ∧
    (s.boundaryOf e).port.responses = s.port.responses ∧ (s.boundaryOf e).port.nextAcceptance = s.port.nextAcceptance ∧
    (s.boundaryOf e).port.offered = s.port.offered := by
  simp [State.boundaryOf, State.setSource]

@[simp] theorem State.changeState_frame (s : State) (w : WindowId) (r : Window) :
    (s.changeState w r).timing = s.timing ∧ (s.changeState w r).mem = s.mem ∧ (s.changeState w r).link = s.link ∧
    (s.changeState w r).startUp = s.startUp ∧ (s.changeState w r).pins = s.pins ∧
    (s.changeState w r).freeUses = s.freeUses ∧ (s.changeState w r).pending = s.pending := by
  simp [State.changeState]

@[simp] theorem State.enableTaken_frame (s : State) (w : WindowId) :
    (s.enableTaken w).timing = s.timing ∧ (s.enableTaken w).mem = s.mem ∧ (s.enableTaken w).link = s.link ∧
    (s.enableTaken w).startUp = s.startUp ∧ (s.enableTaken w).pins = s.pins ∧ (s.enableTaken w).freeUses = s.freeUses ∧
    (s.enableTaken w).pending = s.pending ∧ (s.enableTaken w).carry.copiers = s.carry.copiers := by
  simp [State.enableTaken]

@[simp] theorem State.rollbackGroup_frame (s : State) (g : GroupId) :
    (s.rollbackGroup g).timing = s.timing ∧ (s.rollbackGroup g).locks = s.locks ∧ (s.rollbackGroup g).mem = s.mem ∧
    (s.rollbackGroup g).link = s.link ∧ (s.rollbackGroup g).startUp = s.startUp ∧ (s.rollbackGroup g).pins = s.pins ∧
    (s.rollbackGroup g).freeUses = s.freeUses ∧ (s.rollbackGroup g).pending = s.pending ∧
    (s.rollbackGroup g).carry.copiers = s.carry.copiers ∧ (s.rollbackGroup g).port.responses = s.port.responses ∧
    (s.rollbackGroup g).port.nextAcceptance = s.port.nextAcceptance ∧
    (s.rollbackGroup g).port.offered = s.port.offered := by
  unfold State.rollbackGroup State.dropArming State.rollBackMembers
  split <;> simp

/-! ## Copies, the boot load and results -/

@[simp] theorem State.lineCopied_frame (s : State) (w : WindowId) (line : Nat) :
    (s.lineCopied w line).timing = s.timing ∧ (s.lineCopied w line).port = s.port ∧ (s.lineCopied w line).locks = s.locks ∧
    (s.lineCopied w line).mem = s.mem ∧ (s.lineCopied w line).link = s.link ∧ (s.lineCopied w line).startUp = s.startUp ∧
    (s.lineCopied w line).pins = s.pins ∧ (s.lineCopied w line).freeUses = s.freeUses ∧
    (s.lineCopied w line).pending = s.pending ∧ (s.lineCopied w line).carry.copiers = s.carry.copiers ∧
    (s.lineCopied w line).carry.nextTake = s.carry.nextTake := by
  simp [State.lineCopied]

@[simp] theorem State.copyOkay_frame (s : State) (c : Fin 2) (k : CopyRecord) (data : List Beat) :
    (s.copyOkay c k data).timing = s.timing ∧ (s.copyOkay c k data).port = s.port ∧ (s.copyOkay c k data).locks = s.locks ∧
    (s.copyOkay c k data).mem = s.mem ∧ (s.copyOkay c k data).link = s.link ∧ (s.copyOkay c k data).startUp = s.startUp ∧
    (s.copyOkay c k data).pins = s.pins ∧ (s.copyOkay c k data).freeUses = s.freeUses ∧
    (s.copyOkay c k data).pending = s.pending := by
  unfold State.copyOkay; split <;> simp [State.freeCopier]

@[simp] theorem State.copyResult_frame (s : State) (c : Fin 2) (ok : Bool) (data : List Beat) :
    (s.copyResult c ok data).timing = s.timing ∧ (s.copyResult c ok data).mem = s.mem ∧
    (s.copyResult c ok data).link = s.link ∧ (s.copyResult c ok data).startUp = s.startUp ∧
    (s.copyResult c ok data).pins = s.pins ∧ (s.copyResult c ok data).freeUses = s.freeUses ∧
    (s.copyResult c ok data).pending = s.pending ∧ (s.copyResult c ok data).port.nextAcceptance = s.port.nextAcceptance ∧
    (s.copyResult c ok data).port.offered = s.port.offered := by
  unfold State.copyResult
  repeat' split
  all_goals simp [State.freeCopier]

@[simp] theorem State.transferResult_frame (s : State) (i : Fin 8) (part : TransferPart) (ok : Bool) (data : List Beat) :
    (s.transferResult i part ok data).carry = s.carry ∧ (s.transferResult i part ok data).timing = s.timing ∧
    (s.transferResult i part ok data).mem = s.mem ∧ (s.transferResult i part ok data).link = s.link ∧
    (s.transferResult i part ok data).startUp = s.startUp ∧ (s.transferResult i part ok data).pins = s.pins ∧
    (s.transferResult i part ok data).freeUses = s.freeUses ∧ (s.transferResult i part ok data).pending = s.pending ∧
    (s.transferResult i part ok data).port.nextAcceptance = s.port.nextAcceptance ∧
    (s.transferResult i part ok data).port.offered = s.port.offered := by
  unfold State.transferResult
  split
  · simp
  · dsimp only
    split <;> simp [State.setSlot]

@[simp] theorem State.enableAtBootLoad_frame (s : State) (w : WindowId) :
    (State.enableAtBootLoad s w).timing = s.timing ∧ (State.enableAtBootLoad s w).mem = s.mem ∧
    (State.enableAtBootLoad s w).link = s.link ∧ (State.enableAtBootLoad s w).startUp = s.startUp ∧
    (State.enableAtBootLoad s w).pins = s.pins ∧ (State.enableAtBootLoad s w).freeUses = s.freeUses ∧
    (State.enableAtBootLoad s w).pending = s.pending := by
  unfold State.enableAtBootLoad State.enableWindow
  repeat' split
  all_goals simp

@[simp] theorem State.endBoot_frame (s : State) (r : EventRecord) :
    (s.endBoot r).windows = s.windows ∧ (s.endBoot r).carry = s.carry ∧ (s.endBoot r).groups = s.groups ∧
    (s.endBoot r).timing = s.timing ∧ (s.endBoot r).port = s.port ∧ (s.endBoot r).locks = s.locks ∧
    (s.endBoot r).mem = s.mem ∧ (s.endBoot r).link = s.link ∧ (s.endBoot r).pins = s.pins ∧
    (s.endBoot r).freeUses = s.freeUses ∧ (s.endBoot r).pending = s.pending := by
  simp [State.endBoot]

@[simp] theorem State.bootFail_frame (s : State) (cause : BootCause) :
    (s.bootFail cause).windows = s.windows ∧ (s.bootFail cause).carry = s.carry ∧ (s.bootFail cause).groups = s.groups ∧
    (s.bootFail cause).timing = s.timing ∧ (s.bootFail cause).port = s.port ∧ (s.bootFail cause).locks = s.locks ∧
    (s.bootFail cause).mem = s.mem ∧ (s.bootFail cause).link = s.link ∧ (s.bootFail cause).pins = s.pins ∧
    (s.bootFail cause).freeUses = s.freeUses ∧ (s.bootFail cause).pending = s.pending := by
  simp [State.bootFail]

@[simp] theorem State.present_frame (s : State) (i : Index) :
    (s.present i).windows = s.windows ∧ (s.present i).carry = s.carry ∧ (s.present i).groups = s.groups ∧
    (s.present i).timing = s.timing ∧ (s.present i).port = s.port ∧ (s.present i).locks = s.locks ∧
    (s.present i).mem = s.mem ∧ (s.present i).events = s.events ∧ (s.present i).startUp = s.startUp ∧
    (s.present i).pins = s.pins ∧ (s.present i).freeUses = s.freeUses ∧ (s.present i).pending = s.pending ∧
    (s.present i).link.frame = s.link.frame ∧ (s.present i).link.holdLimit = s.link.holdLimit ∧
    (s.present i).link.lockLimit = s.link.lockLimit ∧ (s.present i).link.memoryLimit = s.link.memoryLimit ∧
    (s.present i).link.staging = s.link.staging ∧ (s.present i).link.inBits = s.link.inBits := by
  unfold State.present Link.sending; split <;> simp

end Sys2Proof.Machine
end

