-- ==== Sys2Proof/Laws/Link.lean ====
section
/-! SUPPORT. The index space for proofs: the field at an index of a record, the value a commit composes from the bytes of the
frame, what a byte that commits a field does, the frame that a byte's row finds, and the bits of a byte. -/

namespace Sys2Proof.Machine

/-! ## The field at an index (R181 to R183) -/

/-- R181. -/
theorem fieldAt_window (i : Index) (w : WindowId) (o : Nat) (ho : o < 32) (h : i.toNat = 0x100 + 32 * w.val + o) :
    fieldAt i = windowField w o := by
  have hw := w.isLt
  unfold fieldAt
  simp only [h]
  rw [if_neg (by omega), if_pos (by omega)]
  have e1 : (256 + 32 * w.val + o - 256) / 32 = w.val := by omega
  have e2 : (256 + 32 * w.val + o - 256) % 32 = o := by omega
  rw [e1, e2]
  simp [windowOf, hw]

/-- R182. -/
theorem fieldAt_group (i : Index) (g : GroupId) (o : Nat) (ho : o < 16) (h : i.toNat = 0x400 + 16 * g.val + o) :
    fieldAt i = groupField g o := by
  have hw := g.isLt
  unfold fieldAt
  simp only [h]
  rw [if_neg (by omega), if_neg (by omega), if_neg (by omega), if_pos (by omega)]
  have e1 : (1024 + 16 * g.val + o - 1024) / 16 = g.val := by omega
  have e2 : (1024 + 16 * g.val + o - 1024) % 16 = o := by omega
  rw [e1, e2]
  simp [groupOf, hw]

/-- R183. -/
theorem fieldAt_source (i : Index) (g : SourceId) (o : Nat) (ho : o < 16) (h : i.toNat = 0x480 + 16 * g.val + o) :
    fieldAt i = sourceField g o := by
  have hw := g.isLt
  unfold fieldAt
  simp only [h]
  rw [if_neg (by omega), if_neg (by omega), if_neg (by omega), if_neg (by omega), if_neg (by omega), if_pos (by omega)]
  have e1 : (1152 + 16 * g.val + o - 1152) / 16 = g.val := by omega
  have e2 : (1152 + 16 * g.val + o - 1152) % 16 = o := by omega
  rw [e1, e2]
  simp [sourceOf, hw]

/-! ## Composed values (R160) -/

theorem toNat_append_byte {n : Nat} (x : BitVec n) (b : Byte) : (x ++ b).toNat = 256 * x.toNat + b.toNat := by
  rw [BitVec.toNat_append, ← Nat.shiftLeft_add_eq_or_of_lt b.isLt, Nat.shiftLeft_eq]; omega

/-- R160: the byte that a commit takes at a place of a field below its highest. -/
theorem State.composedByte_lower (s : State) (f : Field) (i j : Index) (b held : Byte) (o : Nat) (v : Byte) (hj : j ≠ i)
    (hheld : (s.fieldBytes f).getD o 0 = held) (h : s.commitByte f j o v) :
    composedByte ((i, b) :: s.link.staging) j held = v := by
  unfold composedByte
  rw [List.find?_cons_of_neg (by simpa using hj.symm)]
  rcases h with h | ⟨hn, ho⟩
  · rw [h]
  · rw [hn]
    simpa [List.getD, ho] using hheld.symm

/-- R160: a commit at the highest index of a field composes the lower bytes it takes and the byte written, lowest first. -/
theorem State.composed_lower (s : State) (f : Field) (i : Index) (bytes : List Byte) (b : Byte)
    (hw : f.width = bytes.length + 1) (hlow : s.lowerBytes f i bytes) (hshort : bytes.length < 65536) :
    s.composed f (i - BitVec.ofNat 16 bytes.length) ((i, b) :: s.link.staging) = valueOf (bytes ++ [b]) := by
  unfold State.composed
  rw [hw]
  congr 1
  refine List.ext_getElem (by simp) fun o h1 h2 => ?_
  have ho : o < bytes.length + 1 := by simpa using h1
  simp only [List.getElem_map, List.getElem_range]
  by_cases hl : o < bytes.length
  · have hi : i - BitVec.ofNat 16 bytes.length + BitVec.ofNat 16 o = i - BitVec.ofNat 16 (bytes.length - o) := by bv_omega
    have hne : i - BitVec.ofNat 16 (bytes.length - o) ≠ i := by bv_omega
    rw [hi, s.composedByte_lower f i _ b _ o _ hne rfl (hlow o hl), List.getElem_append_left hl]
    simp [List.getD, hl]
  · obtain rfl : o = bytes.length := by omega
    have hi : i - BitVec.ofNat 16 bytes.length + BitVec.ofNat 16 bytes.length = i := by bv_omega
    rw [hi]
    simp [composedByte]

/-- R160: the value that a field of four, three or two bytes takes at its commit. -/
theorem State.composed_four (s : State) (f : Field) (hf : f.width = 4) (i : Index) (b0 b1 b2 b3 : Byte)
    (hlow : s.lowerBytes f i [b0, b1, b2]) :
    s.composed f (i - BitVec.ofNat 16 3) ((i, b3) :: s.link.staging) = (b3 ++ b2 ++ b1 ++ b0).toNat := by
  rw [toNat_append_byte, toNat_append_byte, toNat_append_byte]
  refine (s.composed_lower f i [b0, b1, b2] b3 hf hlow (by simp)).trans ?_
  simp only [List.cons_append, List.nil_append, valueOf]; omega

theorem State.composed_three (s : State) (f : Field) (hf : f.width = 3) (i : Index) (b0 b1 b2 : Byte)
    (hlow : s.lowerBytes f i [b0, b1]) :
    s.composed f (i - BitVec.ofNat 16 2) ((i, b2) :: s.link.staging) = (b2 ++ b1 ++ b0).toNat := by
  rw [toNat_append_byte, toNat_append_byte]
  refine (s.composed_lower f i [b0, b1] b2 hf hlow (by simp)).trans ?_
  simp only [List.cons_append, List.nil_append, valueOf]; omega

theorem State.composed_two (s : State) (f : Field) (hf : f.width = 2) (i : Index) (b0 b1 : Byte)
    (hlow : s.lowerBytes f i [b0]) :
    s.composed f (i - BitVec.ofNat 16 1) ((i, b1) :: s.link.staging) = (b1 ++ b0).toNat := by
  rw [toNat_append_byte]
  refine (s.composed_lower f i [b0] b1 hf hlow (by simp)).trans ?_
  simp only [List.cons_append, List.nil_append, valueOf]; omega

theorem State.composed_one (s : State) (f : Field) (hf : f.width = 1) (i : Index) (b : Byte) (l : List (Index × Byte)) :
    s.composed f (i - BitVec.ofNat 16 0) ((i, b) :: l) = b.toNat := by
  have e1 : i - 0#16 + 0#16 = i := by bv_omega
  simp only [State.composed, hf, List.range, List.range.loop, List.map, composedByte]
  simp only [e1, List.find?_cons, decide_true]
  simp only [valueOf]; omega

/-! ## The frame as a completed byte's row finds it (log 25) -/

@[simp] theorem State.quiet_byteFrame (s : State) : s.quiet.byteFrame = s.byteFrame := rfl

/-- A row of a completed byte that finds a frame finds the link's, with MCLK between two bytes. -/
theorem State.byteFrame_eq_iff (s : State) (f : Frame) (hf : f ≠ .idle) :
    s.byteFrame = f ↔ s.link.frame = f ∧ s.link.inBits = [] ∧ s.link.indexHigh = none ∧ s.pins.mclkHigh = false := by
  unfold State.byteFrame State.betweenBytes
  by_cases h : (s.link.inBits.isEmpty && s.link.indexHigh.isNone && !s.pins.mclkHigh) = true
  · rw [if_pos h]
    simp only [Bool.and_eq_true, List.isEmpty_iff, Option.isNone_iff_eq_none, Bool.not_eq_true'] at h
    simp [h]
  · rw [if_neg h]
    simp only [Bool.and_eq_true, List.isEmpty_iff, Option.isNone_iff_eq_none, Bool.not_eq_true'] at h
    constructor
    · intro e; exact absurd e.symm hf
    · rintro ⟨-, h1, h2, h3⟩; exact absurd ⟨⟨h1, h2⟩, h3⟩ h

/-! ## The bits of a byte (R157) -/

/-- The byte that eight bits carry, by its bits. -/
theorem byteOfBits_eight (b7 b6 b5 b4 b3 b2 b1 b0 : Bool) (j : Nat) (hj : j < 8) :
    (byteOfBits [b7, b6, b5, b4, b3, b2, b1, b0]).getMsbD j = [b7, b6, b5, b4, b3, b2, b1, b0].getD j false := by
  revert b7 b6 b5 b4 b3 b2 b1 b0
  interval_cases j <;> decide

/-- The byte carried by a byte's own bits, most significant first. -/
theorem byteOfBits_bits (v : Byte) : byteOfBits ((List.range 8).map v.getMsbD) = v := by
  revert v; decide +kernel

/-! ## A byte that commits a field (R159, R160) -/

/-- A byte written at a field's highest index, outside a boot load, in the row that commits the field. -/
theorem State.byteAs_commits (s : State) (i : Index) (b : Byte) (f : Field) (o : Nat) (row : ByteRow)
    (hframe : s.byteFrame = .write i) (hboot : s.bootInProgress = false) (hfield : fieldAt i = some (f, o))
    (hwidth : o + 1 = f.width) (hwrite : f.readOnly = false) (hrow : commitRow f b = row) (s1 : State)
    (hcommit : (s.quiet.withLink { s.link with staging := [] }).commit f
      (s.composed f (i - BitVec.ofNat 16 o) ((i, b) :: s.link.staging)) = s1) :
    s.quiet.byteAs row b = s1.withLink { s1.link with frame := .write (i + 1) } := by
  subst hcommit
  have hr : byteRow i b = row := by simp [byteRow, hfield, hwidth, hrow]
  have hw : s.quiet.writeAt i b = (s.quiet.withLink { s.link with staging := [] }).commit f
      (s.composed f (i - BitVec.ofNat 16 o) ((i, b) :: s.link.staging)) := by
    unfold State.writeAt
    rw [hfield]
    dsimp only
    have hb : s.quiet.bootInProgress = false := hboot
    rw [hwrite, hb, if_neg (by simp), if_neg (by simp), if_neg (by omega)]
    rfl
  have hf : s.quiet.byteFrame = .write i := hframe
  unfold State.byteAs
  rw [hf]
  dsimp only
  rw [if_pos hr]
  unfold State.writeByte
  rw [hw]

end Sys2Proof.Machine
end

