-- ==== Sys2Proof/Laws/OwnEvents.lean ====
section
/-! SUPPORT. The part's own event of a step with an empty queue: the search of `State.dueEvent` gives the first event that is
due, in the order of log 5. -/

namespace Sys2Proof.Machine

/-! ## The first entry of a table -/

/-- What a search gives of a table of events by number: the event of the lowest number, and none where there is none. -/
structure FirstOf (found : Option Instr) (table : Nat → Instr → Prop) : Prop where
  single : ∀ p c d, table p c → table p d → c = d
  least : ∀ c, found = some c → ∃ p, table p c ∧ ∀ q d, table q d → p ≤ q
  empty : found = none → ∀ p c, ¬ table p c

theorem places_findSome_some {n : Nat} (f : Fin n → Option Instr) (c : Instr) (h : (places n).findSome? f = some c) :
    ∃ k : Fin n, f k = some c ∧ ∀ j : Fin n, j < k → f j = none := by
  obtain ⟨before, k, rest, hl, hk, hb⟩ := List.findSome?_eq_some_iff.1 h
  refine ⟨k, hk, fun j hj => hb j ?_⟩
  have hs := places_sorted n
  have hm := mem_places j
  rw [hl] at hs hm
  rcases List.mem_append.1 hm with hm | hm
  · exact hm
  · rcases List.mem_cons.1 hm with rfl | hm
    · exact absurd hj (lt_irrefl _)
    · exact absurd hj (not_lt.2 ((List.pairwise_cons.1 (List.pairwise_append.1 hs).2.1).1 j hm).le)

theorem FirstOf.ofPlaces {n : Nat} (f : Fin n → Option Instr) (table : Nat → Instr → Prop)
    (h : ∀ p c, table p c ↔ ∃ k : Fin n, p = k ∧ f k = some c) : FirstOf ((places n).findSome? f) table where
  single p c d hc hd := by
    obtain ⟨k, rfl, hk⟩ := (h p c).1 hc
    obtain ⟨j, hj, hd⟩ := (h _ d).1 hd
    obtain rfl : k = j := Fin.ext hj
    exact Option.some.inj (hk.symm.trans hd)
  least c hc := by
    obtain ⟨k, hk, hlow⟩ := places_findSome_some f c hc
    refine ⟨k, (h k c).2 ⟨k, rfl, hk⟩, fun q d hq => ?_⟩
    obtain ⟨j, rfl, hj⟩ := (h q d).1 hq
    by_contra hlt
    exact absurd (hj.symm.trans (hlow j (by simpa using hlt))) (by simp)
  empty hn p c hp := by
    obtain ⟨k, -, hk⟩ := (h p c).1 hp
    exact absurd (hk.symm.trans (List.findSome?_eq_none_iff.1 hn k (mem_places k))) (by simp)

theorem FirstOf.ofOption (found : Option Instr) (table : Nat → Instr → Prop)
    (h : ∀ p c, table p c ↔ p = 0 ∧ found = some c) : FirstOf found table where
  single p c d hc hd := Option.some.inj (((h p c).1 hc).2.symm.trans ((h p d).1 hd).2)
  least c hc := ⟨0, (h 0 c).2 ⟨rfl, hc⟩, fun _ _ _ => Nat.zero_le _⟩
  empty hn p c hp := by simp [hn] at h; exact h p c hp

/-! ## The seven tables of log 5 -/

theorem State.dueGrant_first (s : State) : FirstOf s.dueGrant (s.ownDue 0) := by
  refine .ofOption _ _ fun p c => ?_
  have hslot : s.freeMemSlot ≠ none ↔ ∃ k : Fin 12, s.mem.slots[k] = .free := by
    rw [State.freeMemSlot, Ne, placesWhere_head_none]; simp
  have hdue : s.dueGrant = some c ↔ c = .memGrant ∧ s.freeMemSlot ≠ none ∧ s.chooseRequest ≠ none := by
    unfold State.dueGrant State.nextGrant
    cases s.freeMemSlot <;> cases s.chooseRequest <;> simp [eq_comm (a := Instr.memGrant)]
  rw [hdue, hslot]
  simp [State.ownDue]

theorem State.dueTake_first (s : State) : FirstOf s.dueTake (s.ownDue 1) := by
  refine .ofOption _ _ fun p c => ?_
  have hidle : s.idleCopier ≠ none ↔ ∃ d : Fin 2, s.carry.copiers[d] = .idle := by
    rw [State.idleCopier, Ne, placesWhere_head_none]; simp [-Fin.getElem_fin, -Fin.forall_fin_two, -Fin.exists_fin_two]
  have hdue : s.dueTake = some c ↔ c = .copierTake ∧ s.idleCopier ≠ none ∧ s.firstCandidate ≠ none := by
    unfold State.dueTake State.nextCopy
    cases s.idleCopier <;> cases s.firstCandidate <;> simp [eq_comm (a := Instr.copierTake)]
  rw [hdue, hidle]
  simp [State.ownDue]

theorem State.dueMemory_first (s : State) : FirstOf s.dueMemory (s.ownDue 2) := by
  refine .ofPlaces _ _ fun p c => ?_
  unfold State.ownDue
  constructor
  · rintro (h | h | ⟨-, k, hp, h⟩ | h | h | h | h) <;> try (exact absurd h.1 (by decide))
    refine ⟨k, hp, ?_⟩
    rcases h with ⟨q, o, n, l, hk, hl, rfl⟩ | ⟨n, l, hk, hl, rfl⟩ <;> simp [-Fin.getElem_fin, hk, MemSlot.due, hl]
  · rintro ⟨k, hp, h⟩
    refine .inr (.inr (.inl ⟨rfl, k, hp, ?_⟩))
    cases hk : s.mem.slots[k] with
    | free => simp [hk, MemSlot.due] at h
    | pending q o n l =>
      rw [hk] at h
      simp only [MemSlot.due] at h
      split at h
      · exact .inl ⟨q, o, n, l, rfl, ‹_›, (Option.some.inj h).symm⟩
      · simp at h
    | fenced n l =>
      rw [hk] at h
      simp only [MemSlot.due] at h
      split at h
      · exact .inr ⟨n, l, rfl, ‹_›, (Option.some.inj h).symm⟩
      · simp at h

/-- R108: a hold count at its limit, spelled out. -/
theorem Transfer.holdExpired_iff (t : Transfer) :
    t.holdExpired = true ↔ ∃ h, t.phase = .waiting ∧ t.hold = some h ∧ h.limit ≤ h.count := by
  unfold Transfer.holdExpired
  cases t.phase <;> cases t.hold <;> simp

theorem State.dueHold_first (s : State) : FirstOf s.dueHold (s.ownDue 3) := by
  refine .ofPlaces _ _ fun p c => ?_
  unfold State.ownDue
  constructor
  · rintro (h | h | h | ⟨-, i, hp, rfl, t, h, hi, hw, hh, hl⟩ | h | h | h) <;> try (exact absurd h.1 (by decide))
    refine ⟨i, hp, ?_⟩
    rw [hi]
    simp [t.holdExpired_iff.2 ⟨h, hw, hh, hl⟩]
  · rintro ⟨i, hp, h⟩
    cases hi : s.port.slots[i] with
    | none => simp [-Fin.getElem_fin, hi] at h
    | some t =>
      by_cases ht : t.holdExpired = true
      · obtain ⟨x, hw, hh, hl⟩ := t.holdExpired_iff.1 ht
        simp [-Fin.getElem_fin, hi, ht] at h
        exact .inr (.inr (.inr (.inl ⟨rfl, i, hp, h.symm, t, x, hi, hw, hh, hl⟩)))
      · simp [-Fin.getElem_fin, hi, ht] at h

theorem State.dueLock_first (s : State) : FirstOf s.dueLock (s.ownDue 4) := by
  refine .ofPlaces _ _ fun p c => ?_
  unfold State.ownDue
  constructor
  · rintro (h | h | h | h | ⟨-, j, hp, rfl, l, hj, hl⟩ | h | h) <;> try (exact absurd h.1 (by decide))
    exact ⟨j, hp, by simp [-Fin.getElem_fin, hj, hl]⟩
  · rintro ⟨j, hp, h⟩
    cases hj : s.locks[j] with
    | none => simp [-Fin.getElem_fin, hj] at h
    | some l =>
      by_cases hl : l.limit ≤ l.age
      · simp [-Fin.getElem_fin, hj, hl] at h
        exact .inr (.inr (.inr (.inr (.inl ⟨rfl, j, hp, h.symm, l, hj, hl⟩))))
      · simp [-Fin.getElem_fin, hj, hl] at h

theorem State.dueClose_first (s : State) : FirstOf s.dueClose (s.ownDue 5) := by
  refine .ofPlaces _ _ fun p c => ?_
  unfold State.ownDue
  constructor
  · rintro (h | h | h | h | h | ⟨-, e, hp, rfl, he⟩ | h) <;> try (exact absurd h.1 (by decide))
    exact ⟨e, hp, by simp [-Fin.getElem_fin, he]⟩
  · rintro ⟨e, hp, h⟩
    by_cases he : s.timing.sources[e].closeTimer = .expiring
    · simp [-Fin.getElem_fin, he] at h
      exact .inr (.inr (.inr (.inr (.inr (.inl ⟨rfl, e, hp, h.symm, he⟩)))))
    · simp [-Fin.getElem_fin, he] at h

theorem State.dueEdge_first (s : State) : FirstOf s.dueEdge (s.ownDue 6) := by
  refine .ofPlaces _ _ fun p c => ?_
  unfold State.ownDue
  constructor
  · rintro (h | h | h | h | h | h | ⟨-, i, hp, rfl, hi⟩) <;> try (exact absurd h.1 (by decide))
    exact ⟨i, hp, by simp [-Fin.getElem_fin, hi]⟩
  · rintro ⟨i, hp, h⟩
    by_cases hi : s.timing.edges[i] = true
    · simp [-Fin.getElem_fin, hi] at h
      exact .inr (.inr (.inr (.inr (.inr (.inr ⟨rfl, i, hp, h.symm, hi⟩)))))
    · simp [-Fin.getElem_fin, hi] at h

/-! ## The event that is due -/

theorem State.ownDue_table (s : State) (n p : Nat) (c : Instr) (h : s.ownDue n p c) : n < 7 := by
  rcases h with h | h | h | h | h | h | h <;> omega

/-- The searches of the tables, in the order of log 5. -/
theorem State.ownDue_first (s : State) (n : Nat) (hn : n < 7) :
    FirstOf ([s.dueGrant, s.dueTake, s.dueMemory, s.dueHold, s.dueLock, s.dueClose, s.dueEdge].getD n none) (s.ownDue n) :=
  match n, hn with
  | 0, _ => s.dueGrant_first
  | 1, _ => s.dueTake_first
  | 2, _ => s.dueMemory_first
  | 3, _ => s.dueHold_first
  | 4, _ => s.dueLock_first
  | 5, _ => s.dueClose_first
  | 6, _ => s.dueEdge_first

/-- The first of a list of searches that finds something, with its place. -/
theorem findSome_id_some {α : Type} (l : List (Option α)) (c : α) (h : l.findSome? id = some c) :
    ∃ n, l.getD n none = some c ∧ ∀ m, m < n → l.getD m none = none := by
  induction l with
  | nil => simp at h
  | cons a l ih =>
    cases a with
    | some x => exact ⟨0, by simpa using h, fun m hm => absurd hm (Nat.not_lt_zero m)⟩
    | none =>
      obtain ⟨n, hn, hlow⟩ := ih (by simpa using h)
      refine ⟨n + 1, by simpa using hn, fun m hm => ?_⟩
      cases m with
      | zero => rfl
      | succ m => simpa using hlow m (by omega)

/-- Log 5: where the search finds an event, it is the first that is due. -/
theorem State.dueEvent_first (s : State) (c : Instr) (h : s.dueEvent = some c) : s.ownDueFirst c := by
  obtain ⟨n, hn, hlow⟩ := findSome_id_some _ c h
  have hn7 : n < 7 := by
    by_contra hge
    rw [List.getD_eq_default _ _ (by simpa using hge)] at hn
    exact absurd hn (by simp)
  obtain ⟨p, hp, hmin⟩ := (s.ownDue_first n hn7).least c hn
  refine ⟨n, p, hp, fun m q d hd => ?_⟩
  rcases lt_trichotomy n m with hnm | rfl | hmn
  · exact .inl hnm
  · exact .inr ⟨rfl, hmin q d hd⟩
  · exact absurd hd ((s.ownDue_first m (s.ownDue_table m q d hd)).empty (hlow m hmn) q d)

/-- Log 5: the search finds an event exactly where it is the first that is due. -/
theorem State.dueEvent_some (s : State) (c : Instr) : s.dueEvent = some c ↔ s.ownDueFirst c := by
  refine ⟨s.dueEvent_first c, fun ⟨n, p, hp, hmin⟩ => ?_⟩
  cases hd : s.dueEvent with
  | none =>
    have hall : ∀ m, [s.dueGrant, s.dueTake, s.dueMemory, s.dueHold, s.dueLock, s.dueClose, s.dueEdge].getD m none = none := by
      intro m
      unfold State.dueEvent at hd
      rw [List.findSome?_eq_none_iff] at hd
      by_cases hm : m < 7
      · rw [List.getD_eq_getElem _ _ (by simpa using hm)]
        exact hd _ (List.getElem_mem _)
      · exact List.getD_eq_default _ _ (by simpa using hm)
    exact absurd hp ((s.ownDue_first n (s.ownDue_table n p c hp)).empty (hall n) p c)
  | some d =>
    obtain ⟨m, q, hq, hmin'⟩ := s.dueEvent_first d hd
    have h1 := hmin m q d hq
    have h2 := hmin' n p c hp
    obtain rfl : n = m := by omega
    obtain rfl : p = q := by omega
    rw [(s.ownDue_first n (s.ownDue_table n p c hp)).single p c d hp hq]

/-- Log 5: the search finds none exactly where no event is due. -/
theorem State.dueEvent_none (s : State) : s.dueEvent = none ↔ ∀ n p c, ¬ s.ownDue n p c := by
  constructor
  · intro hd n p c hp
    unfold State.dueEvent at hd
    rw [List.findSome?_eq_none_iff] at hd
    have hn := s.ownDue_table n p c hp
    refine (s.ownDue_first n hn).empty ?_ p c hp
    rw [List.getD_eq_getElem _ _ (by simpa using hn)]
    exact hd _ (List.getElem_mem _)
  · intro hn
    cases hd : s.dueEvent with
    | none => rfl
    | some c =>
      obtain ⟨n, p, hp, -⟩ := s.dueEvent_first c hd
      exact absurd hp (hn n p c)

/-! ## A request that stands offered -/

/-- R97, R113: a request can be accepted exactly where one stands offered, a slot is free and no reset is held. -/
theorem State.nextAccepted_none (s : State) :
    s.nextAccepted = none ↔
      ¬ (s.resetHeld = false ∧ s.port.offered ≠ [] ∧ ∃ i : Fin 8, s.port.slots[i] = none) := by
  have hslot : s.freeSlot = none ↔ ¬ ∃ i : Fin 8, s.port.slots[i] = none := by
    rw [State.freeSlot, placesWhere_head_none]; simp [-Fin.getElem_fin]
  unfold State.nextAccepted
  cases s.resetHeld <;> cases s.port.offered <;> cases hf : s.freeSlot <;> simp_all [-Fin.getElem_fin]

end Sys2Proof.Machine
end

