-- ==== Sys2Proof/Laws/Waits.lean ====
section
/-! SUPPORT. The test of transfers that follows an event: what it changes of a transfer, and that after it every transfer not yet
issued is READY exactly when no wait holds it. -/

namespace Sys2Proof.Machine

/-! ## What a test changes of a transfer -/

theorem State.testedTransfer_retestedAs (s : State) (t : Transfer) : t.retestedAs (s.testedTransfer t) := by
  unfold State.testedTransfer Transfer.unissued
  split
  · rename_i h
    have hne : t.phase ≠ .issued := by simpa using h
    split
    · exact ⟨rfl, fun hi => absurd hi hne⟩
    · exact ⟨rfl, fun hi => absurd hi hne⟩
  · exact ⟨rfl, fun _ => rfl⟩

theorem State.testedTransfer_issued (s : State) (t : Transfer) (h : t.phase = .issued) : s.testedTransfer t = t :=
  (s.testedTransfer_retestedAs t).2 h

theorem State.testedTransfer_unissued (s : State) (t : Transfer) (h : t.phase ≠ .issued) :
    (s.testedTransfer t).phase ≠ .issued := by
  unfold State.testedTransfer Transfer.unissued
  rw [if_pos (by simpa using h)]
  split <;> simp

/-- The table after a test: each transfer tested in the state whose demand entries are made. -/
theorem State.retest_slots (s : State) (i : Fin 8) :
    s.retest.port.slots[i] = s.port.slots[i].map s.makeEntries.testedTransfer := by
  simp [State.retest, State.testPhases]

theorem State.retest_keepsTransfers (s : State) (changed : Fin 8 → Prop) : s.keepsTransfersBut s.retest changed := by
  intro j _
  rw [State.retest_slots]
  refine ⟨by simp, fun u hu v hv => ?_⟩
  rw [Option.mem_def] at hu hv
  rw [hu] at hv
  obtain rfl : s.makeEntries.testedTransfer u = v := by simpa using hv
  exact s.makeEntries.testedTransfer_retestedAs u

/-! ## Waits read neither phases nor hold counts of transfers that are not issued -/

theorem State.targetLines_tested (s r : State) (t : Transfer) (hw : r.windows = s.windows) :
    r.targetLines (s.testedTransfer t) = s.targetLines t := by
  have hwt : ∀ u : Transfer, r.writeTargets u = s.writeTargets u := by
    intro u; simp only [State.writeTargets, hw]
  have hphase := (s.testedTransfer_retestedAs t).1
  cases hp : t.phase with
  | issued =>
    rw [s.testedTransfer_issued t hp]
    simp only [State.targetLines, hp]
  | waiting | ready =>
    have hne := s.testedTransfer_unissued t (by simp [hp])
    have hr : (s.testedTransfer t).readAddress = t.readAddress := by rw [hphase]
    have hx : s.writeTargets (s.testedTransfer t) = s.writeTargets t := by rw [hphase]; rfl
    cases hq : (s.testedTransfer t).phase with
    | issued => exact absurd hq hne
    | waiting | ready => simp only [State.targetLines, hp, hq, hr, hwt, hx]

theorem State.heldBehind_tested (s r : State) (a b : Transfer) (hw : r.windows = s.windows) :
    r.heldBehind (s.testedTransfer a) (s.testedTransfer b) = s.heldBehind a b := by
  have ha := (s.testedTransfer_retestedAs a).1
  have hb := (s.testedTransfer_retestedAs b).1
  have e1 : (s.testedTransfer a).acceptance = a.acceptance := by rw [ha]
  have e2 : (s.testedTransfer b).acceptance = b.acceptance := by rw [hb]
  have e3 : (s.testedTransfer a).request = a.request := by rw [ha]
  have e4 : r.drainsAsRead (s.testedTransfer b) = s.drainsAsRead b := by
    rw [hb]; simp only [State.drainsAsRead, hw]
  simp only [State.heldBehind, e1, e2, e3, e4, State.targetLines_tested s r _ hw]

theorem State.waits_testPhases (s : State) (t : Transfer) : s.testPhases.waits (s.testedTransfer t) = s.waits t := by
  have hw : s.testPhases.windows = s.windows := by simp
  have ho : s.testPhases.orderHeld (s.testedTransfer t) = s.orderHeld t := by
    unfold State.orderHeld
    congr 1
    funext i
    have hi : s.testPhases.port.slots[i] = s.port.slots[i].map s.testedTransfer := by simp [State.testPhases]
    rw [hi]
    cases s.port.slots[i] with
    | none => rfl
    | some a => exact State.heldBehind_tested s _ a t hw
  have hx : s.testPhases.windowWaits (s.testedTransfer t) = s.windowWaits t := by
    rw [(s.testedTransfer_retestedAs t).1]; rfl
  simp only [State.waits, ho, hx]

/-- R98, R107: after a test, a transfer not yet issued is READY exactly when no wait holds it. -/
theorem State.retest_transfersTested (s : State) : s.retest.transfersTested := by
  intro i t ht hu
  rw [Option.mem_def, State.retest_slots] at ht
  cases hs : s.port.slots[i] with
  | none => simp [hs] at ht
  | some a =>
    obtain rfl : s.makeEntries.testedTransfer a = t := by simpa [hs] using ht
    have hwaits : s.retest.waits (s.makeEntries.testedTransfer a) = s.makeEntries.waits a :=
      s.makeEntries.waits_testPhases a
    rw [hwaits]
    have ha : a.unissued = true := by
      by_contra hn
      have hp : a.phase = .issued := by simpa [Transfer.unissued] using hn
      rw [s.makeEntries.testedTransfer_issued a hp] at hu
      exact hn hu
    simp only [State.testedTransfer, ha, if_true]
    cases hl : s.makeEntries.waits a <;> simp

/-! ## The demand queue and the order of slots -/

/-- R37: a need makes at most one entry, at the tail. -/
theorem State.makeEntry_prefix (s : State) (t : Transfer) : s.carry.demand <+: (s.makeEntry t).carry.demand := by
  unfold State.makeEntry
  split
  · exact List.prefix_rfl
  · split
    · exact List.prefix_rfl
    · exact List.prefix_append _ _

/-- R37: the test after an event only adds entries behind those the queue holds. -/
theorem State.retest_prefix (s : State) : s.carry.demand <+: s.retest.carry.demand := by
  show s.carry.demand <+: s.makeEntries.carry.demand
  unfold State.makeEntries
  refine foldl_keeps (fun a : State => s.carry.demand <+: a.carry.demand) _ (fun a i h => ?_) _ s List.prefix_rfl
  split
  · exact h
  · split
    · exact h.trans (a.makeEntry_prefix _)
    · exact h

/-- R37: the queue stays within its capacity and free of duplicates. -/
theorem State.makeEntry_bounded (s : State) (t : Transfer) (h : s.demandBounded) : (s.makeEntry t).demandBounded := by
  unfold State.makeEntry
  split
  · exact h
  · split
    · exact h
    · rename_i d _ hc
      have hc' : d ∉ s.carry.demand ∧ ¬ Config.demandCapacity ≤ s.carry.demand.length := by simpa using hc
      refine ⟨?_, ?_⟩
      · simp only [State.withDemand_demand, List.length_append, List.length_singleton]; omega
      · refine List.Nodup.append h.2 (List.nodup_singleton d) ?_
        simpa using hc'.1

theorem State.retest_bounded (s : State) (h : s.demandBounded) : s.retest.demandBounded := by
  show s.makeEntries.demandBounded
  unfold State.makeEntries
  refine foldl_keeps State.demandBounded _ (fun a i h => ?_) _ s h
  split
  · exact h
  · split
    · exact a.makeEntry_bounded _ h
    · exact h

theorem State.mem_insertByAge (s : State) (i j : Fin 8) (l : List (Fin 8)) : j ∈ s.insertByAge i l ↔ j = i ∨ j ∈ l := by
  induction l with
  | nil => simp [State.insertByAge]
  | cons a l ih =>
    unfold State.insertByAge
    split
    · split
      · simp
      · simp only [List.mem_cons, ih]; tauto
    · simp only [List.mem_cons, ih]; tauto

/-- R97: the slots in order of age are the occupied slots. -/
theorem State.mem_slotsByAge (s : State) (i : Fin 8) : i ∈ s.slotsByAge ↔ s.port.slots[i].isSome = true := by
  have hl : ∀ l : List (Fin 8), i ∈ l.foldr s.insertByAge [] ↔ i ∈ l := by
    intro l
    induction l with
    | nil => simp
    | cons a l ih => simp only [List.foldr_cons, State.mem_insertByAge, ih, List.mem_cons]
  unfold State.slotsByAge
  rw [hl, mem_placesWhere]

/-! ## Settling pending writes (R22, R186) -/

/-- An answer frees its slot and no other. -/
theorem State.answer_slots (s : State) (i : Fin 8) (st : Status) (data : List Beat) :
    (s.answer i st data).port.slots = s.port.slots.set i none := by
  unfold State.answer
  split
  · rename_i h
    ext j hj
    by_cases hji : j = i
    · subst hji; simp [← h]
    · rw [Vector.getElem_set_ne _ _ (Ne.symm hji)]
  · simp [State.setSlot]

theorem State.answer_slot (s : State) (i j : Fin 8) (st : Status) (data : List Beat) :
    (s.answer i st data).port.slots[j] = if i = j then none else s.port.slots[j] := by
  have h : (s.answer i st data).port.slots[j] = (s.port.slots.set i none)[j] :=
    congrArg (fun v : Vector (Option Transfer) 8 => v[j]) (s.answer_slots i st data)
  rw [h]
  by_cases hij : i = j
  · subst hij; simp
  · have hne : (i : Nat) ≠ j := fun he => hij (Fin.ext he)
    simp [hij, Vector.getElem_set_ne _ _ hne]

/-- Whether a slot holds a write not yet issued to an address that satisfies a test. -/
def State.settlesSlot (s : State) (p : Address → Bool) (i : Fin 8) : Bool :=
  s.port.slots[i].any fun t => t.pendingWriteIn p

theorem State.settleSlot_slots (s : State) (p : Address → Bool) (st : Status) (i j : Fin 8) :
    (State.settleSlot p st s i).port.slots[j] = if i = j ∧ s.settlesSlot p j = true then none else s.port.slots[j] := by
  unfold State.settleSlot State.settlesSlot
  split
  · rename_i h
    by_cases hij : i = j
    · subst hij; simp [h]
    · simp [hij]
  · rename_i t h
    split
    · rename_i hp
      rw [State.answer_slot]
      by_cases hij : i = j
      · subst hij; simp [-Fin.getElem_fin, h, hp]
      · simp [hij]
    · rename_i hp
      by_cases hij : i = j
      · subst hij; simp [-Fin.getElem_fin, h, hp]
      · simp [hij]

/-- R22: settling frees the slots of the writes it answers and no other. -/
theorem State.settleWrites_slots (s : State) (p : Address → Bool) (st : Status) (j : Fin 8) :
    (s.settleWrites p st).port.slots[j] = if s.settlesSlot p j = true then none else s.port.slots[j] := by
  have hl : ∀ (l : List (Fin 8)) (s : State), (l.foldl (State.settleSlot p st) s).port.slots[j] =
      if j ∈ l ∧ s.settlesSlot p j = true then none else s.port.slots[j] := by
    intro l
    induction l with
    | nil => intro s; simp
    | cons a l ih =>
      intro s
      rw [List.foldl_cons, ih]
      have hs := s.settleSlot_slots p st a j
      by_cases haj : a = j
      · subst haj
        by_cases hq : s.settlesSlot p a = true
        · simp [-Fin.getElem_fin, hs, hq]
        · have hq' : (State.settleSlot p st s a).settlesSlot p a = s.settlesSlot p a := by
            unfold State.settlesSlot; rw [hs, if_neg (by simp [hq])]
          simp [-Fin.getElem_fin, hs, hq, hq']
      · have hq' : (State.settleSlot p st s a).settlesSlot p j = s.settlesSlot p j := by
          unfold State.settlesSlot; rw [hs]; simp [haj]
        rw [hs, hq']
        have hja : ¬ j = a := fun h => haj h.symm
        simp [haj, hja]
  unfold State.settleWrites
  rw [hl]
  simp

/-! ## What an answer makes of claimed entries and groups (R122, R62) -/

/-- R122: the entry that was claimed is settled by the answer. -/
theorem Lock.afterAnswer_settled (l : Lock) (st : Status) : l.afterAnswer st = l.settled st := by
  cases st <;> rfl

/-- R122: what the answer to one request leaves of one entry. -/
def Lock.afterRequest (r : Request) (st : Status) (e : Option Lock) : Option Lock :=
  match e with
  | none => none
  | some l => if l.isClaimOf r then l.settled st else some l

theorem State.settleLock_lock (s : State) (r : Request) (st : Status) (j : Fin 4) :
    (s.settleLock r st).locks[j] = Lock.afterRequest r st s.locks[j] := by
  unfold State.settleLock Lock.afterRequest
  by_cases hk : r.kind = .unlockWrite
  · rw [if_pos hk, State.withLocks_locks, mapTable_getElem_fin]
    cases s.locks[j] with
    | none => rfl
    | some l =>
      have hc : l.claimedBy r = true ↔ l.isClaimOf r := by simp [Lock.claimedBy, Lock.isClaimOf, hk, and_assoc]
      by_cases h : l.isClaimOf r
      · show (if l.claimedBy r = true then l.afterAnswer st else some l) = if l.isClaimOf r then l.settled st else some l
        rw [if_pos (hc.2 h), if_pos h, Lock.afterAnswer_settled]
      · show (if l.claimedBy r = true then l.afterAnswer st else some l) = if l.isClaimOf r then l.settled st else some l
        rw [if_neg (mt hc.1 h), if_neg h]
  · rw [if_neg hk]
    cases s.locks[j] with
    | none => rfl
    | some l => exact (if_neg fun h : l.isClaimOf r => hk h.1).symm

/-- R122: an answer settles the entry that its request claimed, and no other. -/
theorem State.answer_settlesClaimOf (s : State) (i : Fin 8) (t : Transfer) (st : Status) (data : List Beat)
    (h : s.port.slots[i] = some t) : s.settlesClaimOf (s.answer i st data) t.request st := by
  intro j
  unfold State.answer
  simp only [h, State.armByAnswer_frame]
  rw [State.settleLock_lock]
  simp only [State.uncount_frame, State.respond_frame, State.setSlot_locks]
  cases s.locks[j] <;> rfl

/-- R60, R62: an answer makes the arming request of a trigger write answered OKAY, and no other. -/
theorem State.answer_armsByAnswer (s : State) (i : Fin 8) (t : Transfer) (st : Status) (data : List Beat)
    (h : s.port.slots[i] = some t) : s.armsByAnswer (s.answer i st data) s.events t st := by
  unfold State.answer
  simp only [h]
  unfold State.armByAnswer
  refine ⟨fun hn => ?_, fun g hg hok => ⟨fun hs => ?_, fun n late hs => ?_, fun hs => ?_⟩⟩
  · rcases hn with hn | hn
    · simp [hn]
    · cases st <;> simp_all
  all_goals
    subst hok
    simp [-Fin.getElem_fin, hg, State.arm, hs, State.sourceClosed]
/-- R22, R122: whether the write in a slot is settled and has claimed an entry. -/
def State.slotSettles (s : State) (p : Address → Bool) (l : Lock) (i : Fin 8) : Prop :=
  ∃ u ∈ s.port.slots[i], u.isPendingWrite p ∧ l.isClaimOf u.request

theorem Transfer.pendingWriteIn_iff (u : Transfer) (p : Address → Bool) :
    u.pendingWriteIn p = true ↔ u.isPendingWrite p := by
  simp [Transfer.pendingWriteIn, Transfer.unissued, and_assoc]

/-- What settling one slot leaves of a lock entry. -/
theorem State.settleSlot_lock (s : State) (p : Address → Bool) (st : Status) (i : Fin 8) (j : Fin 4) :
    (s.locks[j] = none → (State.settleSlot p st s i).locks[j] = none) ∧
    ∀ l, s.locks[j] = some l →
      (s.slotSettles p l i → (State.settleSlot p st s i).locks[j] = l.settled st) ∧
      (¬ s.slotSettles p l i → (State.settleSlot p st s i).locks[j] = some l) := by
  unfold State.settleSlot State.slotSettles
  cases ht : s.port.slots[i] with
  | none => simp_all
  | some t =>
    have hlock := s.answer_settlesClaimOf i t st [] ht j
    by_cases hp : t.isPendingWrite p
    · simp only [(t.pendingWriteIn_iff p).2 hp, if_true]
      rw [hlock]
      refine ⟨fun hn => by rw [hn], fun l hl => ⟨fun hs => ?_, fun hs => ?_⟩⟩ <;> rw [hl]
      · obtain ⟨u, hu, -, hc⟩ := hs
        obtain rfl : t = u := by simpa using hu
        exact if_pos hc
      · exact if_neg fun hc => hs ⟨t, rfl, hp, hc⟩
    · simp only [mt (t.pendingWriteIn_iff p).1 hp]
      refine ⟨id, fun l hl => ⟨fun hs => ?_, fun _ => hl⟩⟩
      obtain ⟨u, hu, hpu, -⟩ := hs
      obtain rfl : t = u := by simpa using hu
      exact absurd hpu hp

/-- Settling one slot leaves what another slot settles. -/
theorem State.settleSlot_slotSettles (s : State) (p : Address → Bool) (st : Status) (l : Lock) (i k : Fin 8) (h : i ≠ k) :
    (State.settleSlot p st s i).slotSettles p l k ↔ s.slotSettles p l k := by
  unfold State.slotSettles
  rw [State.settleSlot_slots, if_neg fun hk => h hk.1]

theorem Lock.settled_not_settled (s : State) (p : Address → Bool) (l m : Lock) (st : Status) (h : l.settled st = some m)
    (i : Fin 8) : ¬ s.slotSettles p m i := by
  unfold Lock.settled at h
  split at h
  · obtain rfl : { l with claim := none } = m := by simpa using h
    rintro ⟨u, -, -, hc⟩
    exact absurd hc.2.2.2 (by simp)
  · simp at h

/-- R22, R122: settling settles the entries that the writes it answers claimed, and leaves every other. -/
theorem State.settleWrites_lock (s : State) (p : Address → Bool) (st : Status) (j : Fin 4) :
    (s.locks[j] = none → (s.settleWrites p st).locks[j] = none) ∧
    ∀ l, s.locks[j] = some l →
      ((∃ i, s.slotSettles p l i) → (s.settleWrites p st).locks[j] = l.settled st) ∧
      ((∀ i, ¬ s.slotSettles p l i) → (s.settleWrites p st).locks[j] = some l) := by
  have walk : ∀ (L : List (Fin 8)) (s : State), L.Nodup →
      (s.locks[j] = none → (L.foldl (State.settleSlot p st) s).locks[j] = none) ∧
      ∀ l, s.locks[j] = some l →
        ((∃ i ∈ L, s.slotSettles p l i) → (L.foldl (State.settleSlot p st) s).locks[j] = l.settled st) ∧
        ((∀ i ∈ L, ¬ s.slotSettles p l i) → (L.foldl (State.settleSlot p st) s).locks[j] = some l) := by
    intro L
    induction L with
    | nil => intro s _; simp
    | cons a L ih =>
      intro s hL
      obtain ⟨ha, hL⟩ := List.nodup_cons.1 hL
      obtain ⟨hnone, hsome⟩ := s.settleSlot_lock p st a j
      obtain ⟨inone, isome⟩ := ih (State.settleSlot p st s a) hL
      have hne : ∀ i ∈ L, a ≠ i := fun i hi h => ha (h ▸ hi)
      rw [List.foldl_cons]
      refine ⟨fun h => inone (hnone h), fun l hl => ?_⟩
      by_cases hs : s.slotSettles p l a
      · refine ⟨fun _ => ?_, fun h => absurd hs (h a List.mem_cons_self)⟩
        have h1 := (hsome l hl).1 hs
        cases hm : l.settled st with
        | none => exact inone (h1.trans hm)
        | some m => exact (isome m (h1.trans hm)).2 fun i _ => Lock.settled_not_settled _ p l m st hm i
      · have h1 := isome l ((hsome l hl).2 hs)
        refine ⟨fun ⟨i, hi, h⟩ => h1.1 ?_, fun h => h1.2 fun i hi => ?_⟩
        · rcases List.mem_cons.1 hi with rfl | hi
          · exact absurd h hs
          · exact ⟨i, hi, (State.settleSlot_slotSettles s p st l a i (hne i hi)).2 h⟩
        · exact mt (State.settleSlot_slotSettles s p st l a i (hne i hi)).1 (h i (List.mem_cons_of_mem _ hi))
  have h := walk (places 8) s ((places_sorted 8).imp ne_of_lt)
  refine ⟨h.1, fun l hl => ⟨fun ⟨i, hi⟩ => (h.2 l hl).1 ⟨i, mem_places i, hi⟩, fun hn => (h.2 l hl).2 fun i _ => hn i⟩⟩

end Sys2Proof.Machine
end

