-- ==== Sys2Proof/Tests/Slice0.lean ====
section
/-! SUPPORT. Checks of the model on small states: ill-formed commands, one step of each command, and for each statement a state
and operands that meet its hypotheses, clause by clause. -/

namespace Sys2Proof.Tests

set_option synthInstance.maxSize 4000
set_option Elab.async false

open Sys2Proof Sys2Proof.Machine

/-! ## Small states -/

/-- W0 with home range 0x10000 and twin range 0x20000, 4096 bytes each, in a state with given sets. -/
def window (state : WindowState) (live : Bank) (dirty carry : LineSet) : Window :=
  { Window.powerOn with
    base := 0x10000
    twin := 0x20000
    sizeCode := 12
    state := state
    live := live
    dirty := dirty
    carry := carry }

/-- The part after reset with master 1 a producer of G0 and W0 as given. -/
def part (w : Window) : State :=
  (State.reset.setGroup 0 { Group.powerOn with producers := 0x0002 }).setWindow 0 w

/-- W0 ACTIVE, line 5 staged, line 3 to be copied. -/
def active : State := part (window .active .bank0 [5] [3])

/-- W0 ACTIVE with nothing staged and nothing to be copied. -/
def clean : State := part (window .active .bank0 [] [])

/-- W0 in a state whose sets are empty. -/
def stopped (state : WindowState) : State := part (window state .bank0 [] [])

/-- W0 HOMING with one line left. -/
def homing : State := part (window .homing .bank1 [] [3])

/-- W0 FAULTED and G0 BLOCKED. -/
def faulted : State :=
  (part { window .faulted .bank0 [] [] with faultAddress := some 0x10000 }).setGroup 0
    { Group.powerOn with producers := 0x0002, state := .blocked }

/-- G0 in a state. -/
def inGroup (state : GroupState) (s : State) : State :=
  s.setGroup 0 { s.groups[(0 : GroupId)] with state := state }

/-- The source of G0 CLOSED. -/
def closed (s : State) : State :=
  s.setSource 0 { s.timing.sources[(0 : SourceId)] with phase := .closed }

def request (kind : TransferKind) (master : MasterId) (address : Address) (beats : Nat) : Request :=
  { master := master
    tag := 0
    kind := kind
    address := address
    beats := beats
    data := if kind.isWrite then List.replicate beats 7 else []
    lanes := if kind.isWrite then List.replicate beats 0xFF else [] }

/-- A transfer routed to W0. -/
def routed (kind : TransferKind) (route : Route) (address : Address) (phase : TransferPhase) : Transfer :=
  { keptTransfer (request kind 1 address 1) 0 (some 0) (some .producer) route
      (if kind.isWrite then none else some address) with phase := phase }

/-- A transfer whose first request is outstanding. -/
def issued (kind : TransferKind) : Transfer :=
  { routed kind .liveBank 0x10000 .issued with first := .outstanding 0x10000 }

def inSlot (i : Fin 8) (t : Transfer) (s : State) : State := s.setSlot i (some t)

/-- A copy of line 3 of W0. -/
def copy (phase : CopyPhase) (owned granted : Bool) (origin : CopyOrigin) : CopyRecord :=
  { window := 0
    line := 3
    source := 0x100C0
    destination := 0x200C0
    origin := origin
    owned := owned
    phase := phase
    buffer := []
    granted := granted
    taken := 0 }

def copying (k : CopyRecord) (s : State) : State := s.setCopier 0 (.busy k)

def memRead : MemRequest := { kind := .read, address := 0x10000, beats := 1, data := [], lanes := [] }

def memWrite : MemRequest := { kind := .write, address := 0x10000, beats := 1, data := [7], lanes := [0xFF] }

/-- Memory slot 0 PENDING with its response timer at its limit. -/
def asked (q : MemRequest) (o : Owner) (s : State) : State := s.setMemSlot 0 (.pending q o 4 4)

def lock (master : MasterId) (claim : Option (Fin 32)) : Lock :=
  { master := master, line := 0x10000, limit := 4, age := 4, claim := claim }

def locked (l : Lock) (s : State) : State := s.setLock 0 (some l)

/-- An UNLOCK_WRITE of master 1 to the first line of W0 in slot 1, by a route and not yet issued, with the entry it claimed,
and an entry of master 2 on another line. -/
def claimed (route : Route) (s : State) : State :=
  (inSlot 1 (routed .unlockWrite route 0x10000 .ready) (locked (lock 1 (some 0)) s)).setLock 1
    (some { lock 2 (some 0) with line := 0x10040 })

/-- The lock table of `claimed` after an answer to its write. -/
abbrev settledTo (first : Option Lock) (s : State) : Prop :=
  s.locks[(0 : Fin 4)] = first ∧ s.locks[(1 : Fin 4)] = some { lock 2 (some 0) with line := 0x10040 }

/-- A write frame at an index. -/
def writing (i : Index) (staging : List (Index × Byte)) (s : State) : State :=
  s.withLink { s.link with frame := .write i, staging := staging }

/-- A write frame at the command code, with an argument. -/
def commanding (argument : Byte) (s : State) : State :=
  s.withLink { s.link with frame := .write 0x0001, argument := argument }

/-- A boot load in progress that waits for its pointer. -/
def booting : State := State.reset.bootStart

/-- The bits of a byte, most significant first. -/
def bitsOf (b : Byte) : List Bool := (List.range 8).map b.getMsbD

/-- MSEL_N low and a frame in a state, with seven bits of a byte taken and MCLK low. -/
def sevenBits (b : Byte) (frame : Frame) (s : State) : State :=
  (s.withLink { s.link with frame := frame, inBits := (bitsOf b).take 7 }).withPins { s.pins with mselLow := true }

/-- The next state of a command. -/
def after (c : Instr) (s : State) : State :=
  match exec c s with
  | .next t => t
  | .fault f => nomatch f
  | .refused _ => s

/-! ## Ill-formed commands -/

theorem test_wellFormed_refuses_zero_beats :
    (Instr.requestAcceptance (request .read 1 0x10000 0)).wellFormed = false := by decide

theorem test_wellFormed_refuses_nine_beats :
    (Instr.requestAcceptance (request .read 1 0x10000 9)).wellFormed = false := by decide

theorem test_wellFormed_refuses_write_without_data :
    (Instr.requestAcceptance { request .write 1 0x10000 2 with data := [7] }).wellFormed = false := by decide

theorem test_wellFormed_refuses_write_without_lanes :
    (Instr.requestAcceptance { request .unlockWrite 1 0x10000 2 with lanes := [] }).wellFormed = false := by decide

theorem test_wellFormed_refuses_read_with_data :
    (Instr.requestAcceptance { request .read 1 0x10000 1 with data := [7] }).wellFormed = false := by decide

theorem test_wellFormed_refuses_nine_beat_response :
    (Instr.memResponse 0 .okay (List.replicate 9 0)).wellFormed = false := by decide

theorem test_wellFormed_refuses_code_that_names_a_command :
    (Instr.commandCodeNamingNoCommand 0x01).wellFormed = false ∧
      (Instr.commandCodeNamingNoCommand 0x07).wellFormed = false := by decide

theorem test_wellFormed_accepts :
    (Instr.requestAcceptance (request .write 1 0x10000 8)).wellFormed = true ∧
      (Instr.commandCodeNamingNoCommand 0x00).wellFormed = true ∧
      (Instr.commandCodeNamingNoCommand 0x08).wellFormed = true := by decide

/-! ## One step of each command -/

/-- A producer read of a clean line goes to the shadow bank; one of a line in the carry set to the live bank (R12). -/
theorem test_requestAcceptance_producer_reads :
    ((after (.requestAcceptance (request .read 1 0x10008 1)) active).port.slots[(0 : Fin 8)].bind (·.readAddress)) =
        some 0x20008 ∧
      ((after (.requestAcceptance (request .read 1 0x100C8 1)) active).port.slots[(0 : Fin 8)].bind (·.readAddress)) =
        some 0x100C8 := by decide +kernel

/-- A consumer read is counted in the live bank (R11, R34). -/
theorem test_requestAcceptance_consumer_read_counts :
    (after (.requestAcceptance (request .read 2 0x10008 1)) active).windows[(0 : WindowId)].liveReads0 = 1 := by
  decide +kernel

/-- The grant of a ready read presents it with identifier 0 (R133). -/
theorem test_memGrant_presents_request :
    (after .memGrant (inSlot 0 (routed .read .liveBank 0x10000 .ready) active)).mem.presented =
      some (0, { kind := .read, address := 0x10000, beats := 1, data := [], lanes := [] }) := by decide +kernel

/-- A producer write is issued to the shadow copy and stages its line (R13). -/
theorem test_memGrant_stages_line :
    let t := after .memGrant (inSlot 0 (routed .write .shadowBank 0x10040 .ready) active)
    t.windows[(0 : WindowId)].dirty = [1, 5] ∧ t.mem.presented.map (·.2.address) = some 0x20040 := by decide +kernel

theorem test_memResponse_answers_read :
    (after (.memResponse 0 .okay [9]) (asked memRead (.transfer 0 .first) (inSlot 0 (issued .read) active))).port.responses =
      [{ master := 1, tag := 0, status := .okay, data := [9] }] := by decide +kernel

theorem test_memTimeout_fences_slot :
    let t := after (.memTimeout 0) (asked memRead (.transfer 0 .first) (inSlot 0 (issued .read) active))
    t.mem.slots[(0 : Fin 12)] = .fenced 0 2048 ∧ t.events.records = [.memTimeout 0x10000 (some 0)] ∧
      t.port.responses.map (·.status) = [.error] := by decide +kernel

theorem test_fenceEnd_frees_slot :
    (after (.fenceEnd 0) (active.setMemSlot 0 (.fenced 4 4))).mem.slots[(0 : Fin 12)] = .free ∧
      (after (.fenceEnd 0) (active.setMemSlot 0 (.fenced 3 4))).mem.slots[(0 : Fin 12)] = .fenced 3 4 := by decide +kernel

theorem test_copierTake_takes_carry_line :
    (after .copierTake active).carry.copiers[(0 : Fin 2)] = .busy (copy .reading true false .background) := by
  decide +kernel

theorem test_holdLimitExpiry_answers_retry :
    let t := after (.holdLimitExpiry 0)
      (inSlot 0 { routed .write .shadowBank 0x100C0 .waiting with hold := some { count := 4, limit := 4 } } active)
    t.port.responses.map (·.status) = [.retry] ∧ t.events.records = [.holdExpired 1 0x100C0 (some 0)] := by decide +kernel

/-- The hold limit of a transfer that a take sends back to WAITING with its count at the limit is due at once (log 4). -/
theorem test_holdLimitExpiry_due_at_return_to_waiting :
    let write := keptTransfer (request .write 1 0x100C0 8) 0 (some 0) (some .producer) .shadowBank none
    let t := after .copierTake (inSlot 0 { write with hold := some { count := 4, limit := 4 } } active)
    t.port.slots[(0 : Fin 8)].map (·.phase) = some .waiting ∧
      (after (.holdLimitExpiry 0) t).port.responses.map (·.status) = [.retry] := by decide +kernel

theorem test_lockLimitExpiry_breaks_lock :
    let t := after (.lockLimitExpiry 0) (locked (lock 1 none) active)
    t.locks[(0 : Fin 4)] = none ∧ t.events.records = [.lockBroken 1 0x10000] := by decide +kernel

theorem test_closeTimerExpiry_closes_phase :
    (after (.closeTimerExpiry 0)
        (active.setSource 0 { Source.powerOn with closeTimer := .expiring })).timing.sources[(0 : SourceId)].phase =
      .closed := by decide +kernel

/-- The first sample after a reset is no edge; a high sample after a low one is, and its boundary is the row's (R84). -/
theorem test_syncRisingEdge_takes_sampled_edge :
    let raise := fun s : State => after (.syncRisingEdge 0 true) s
    (raise State.reset).tick.timing.edges[(0 : Fin 2)] = false ∧
      (raise State.reset.tick).tick.dueEvent = some (.syncRisingEdge 0 true) ∧
      (after (.syncRisingEdge 0 false) (raise State.reset.tick)).tick.timing.edges[(0 : Fin 2)] = false ∧
      (raise (raise State.reset.tick).tick).timing.sources[(0 : SourceId)].counter = 1 := by decide +kernel

theorem test_enable_seeds_every_line :
    let t := after .enable (commanding 0 (stopped .disabled))
    t.windows[(0 : WindowId)].state = .seeding ∧ t.windows[(0 : WindowId)].carry = List.range 64 ∧
      t.link.result = .accepted := by decide +kernel

theorem test_disable_homes_by_live_bank :
    (after .disable (commanding 0 active)).windows[(0 : WindowId)].state = .disabled ∧
      (after .disable (commanding 0 (part (window .active .bank1 [] [])))).windows[(0 : WindowId)].state = .homing := by
  decide +kernel

theorem test_suspend_empties_sets :
    let t := after .suspend (commanding 0 active)
    t.windows[(0 : WindowId)].state = .suspended ∧ t.windows[(0 : WindowId)].dirty = [] ∧
      t.windows[(0 : WindowId)].carry = [] := by decide +kernel

theorem test_publish_arms_group :
    (after .publish (commanding 0 active)).groups[(0 : GroupId)].state = .armed .one false ∧
      (after .publish (commanding 0 (closed active))).groups[(0 : GroupId)].state = .armed .one true := by decide +kernel

theorem test_rollback_returns_staged_line :
    let t := after .rollback (commanding 0 active)
    t.windows[(0 : WindowId)].carry = [3, 5] ∧ t.windows[(0 : WindowId)].dirty = [] ∧
      t.groups[(0 : GroupId)].rollbackPending = true := by decide +kernel

theorem test_boundary_counts_e2 :
    (after .boundary (commanding 0 active)).timing.sources[(2 : SourceId)].counter = 1 := by decide +kernel

theorem test_softReset_suspends_and_records :
    let t := after .softReset (commanding 0 active)
    t.windows[(0 : WindowId)].state = .suspended ∧ t.events.records = [.reset .soft] ∧ t.link.code = 7 := by
  decide +kernel

theorem test_frameOpen_awaits_identifier :
    (after .frameOpen active).link.frame = .ident ∧ (after .frameOpen active).pins.mselLow = true := by decide +kernel

/-- The last bit of an identifier opens the index; a bit outside a frame is ignored (R157). -/
theorem test_mclkRise_completes_identifier :
    ((sevenBits 0xAE .ident active).mclkRise false []).link.frame = .index .readFrame ∧
      ((sevenBits 0xAE .ident active).mclkRise true []).link.frame = .skip ∧
      (active.mclkRise true []).link = active.link := by decide +kernel

/-- The last bit of a code byte runs its command; a falling edge in a read frame presents the first bit of a byte (R157,
R164). -/
theorem test_mclk_runs_command_and_presents_bit :
    ((sevenBits 0x04 (.write 0x0001) active).mclkRise false []).groups[(0 : GroupId)].state = .armed .one false ∧
      ((active.withLink { active.link with frame := .read 0x0108, inBits := [] }).mclkFall).link.out = some 12 ∧
      ((active.withLink { active.link with frame := .read 0x0102, inBits := [] }).mclkFall).link.mdo = some false := by
  decide +kernel

theorem test_identifierByte_selects_direction :
    let s := active.withLink { active.link with frame := .ident }
    (after (.identifierByte 0xAE) s).link.frame = .index .readFrame ∧
      (after (.identifierByte 0x2E) s).link.frame = .index .writeFrame ∧
      (after (.identifierByte 0x2F) s).link.frame = .skip := by decide +kernel

/-- A read frame at 0x0100 presents the low byte of the base of W0; the next bytes come from the snapshot (R161). -/
theorem test_indexBytes_presents_first_byte :
    let s := active.withLink { active.link with frame := .index .readFrame }
    let t := after (.indexBytes 0x01 0x00) s
    t.link.frame = .read 0x0100 ∧ t.link.out = some 0x00 ∧ t.link.mdo = some false ∧
      (after .headRecordRemoval (after .headRecordRemoval t)).link.out = some 0x01 := by decide +kernel

theorem test_frameEnd_forgets_staging :
    let s := (writing 0x0103 [(0x0102, 1)] active).withPins { active.pins with mselLow := true }
    (after .frameEnd s).link.frame = .idle ∧ (after .frameEnd s).link.staging = [] := by decide +kernel

theorem test_fieldWrite_stages_and_refuses :
    (after (.fieldWrite 9) (writing 0x0100 [] active)).link.staging = [(0x0100, 9)] ∧
      (after (.fieldWrite 9) (writing 0x0002 [] active)).link.writeRefused = true ∧
      (after (.fieldWrite 9) (writing 0x0000 [] active)).link.argument = 9 := by decide +kernel

theorem test_windowConfigWrite_commits_base :
    (after (.windowConfigWrite 0x40)
        (writing 0x0103 [(0x0102, 0x30), (0x0101, 0x20), (0x0100, 0x10)] (stopped .disabled))).windows[(0 : WindowId)].base =
      0x40302010 := by decide +kernel

theorem test_groupConfigWrite_commits_trigger :
    (after (.groupConfigWrite 0x01)
        (writing 0x0408 [(0x0407, 0x02), (0x0406, 0x03), (0x0405, 0x10)] active)).groups[(0 : GroupId)].trigger =
      some { window := 15, offset := 0x010203 } := by decide +kernel

theorem test_holdWrite_sets_late_mark :
    let s := closed (part (window .active .bank0 [] []))
    let g := { s.groups[(0 : GroupId)] with hold := true, state := .armed .two false }
    (after (.holdWrite 0) (writing 0x0404 [] (s.setGroup 0 g))).groups[(0 : GroupId)].state = .armed .two true := by
  decide +kernel

theorem test_closeDelayWrite_commits_three_bytes :
    (after (.closeDelayWrite 3)
        (writing 0x0487 [(0x0486, 2), (0x0485, 1)] active)).timing.sources[(0 : SourceId)].closeDelay = 0x030201 := by
  decide +kernel

theorem test_limitWrite_refuses_zero :
    (after (.limitWrite 1) (writing 0x0005 [(0x0004, 2)] active)).link.holdLimit = 0x0102 ∧
      (after (.limitWrite 0) (writing 0x0005 [(0x0004, 0)] active)).link.writeRefused = true := by decide +kernel

theorem test_eventMaskWrite_drives_irq :
    let s := writing 0x000F [(0x000E, 0xFF), (0x000D, 0xFF), (0x000C, 0xFF)] (active.record .bootDone)
    (after (.eventMaskWrite 0xFF) s).events.mask = 0x0007FFFE ∧ (after (.eventMaskWrite 0xFF) s).events.irqLow = true := by
  decide +kernel

theorem test_overrunFlagClear_clears :
    (after .overrunFlagClear
      ((writing 0x0011 [] active).withEvents { active.events with overrun := true })).events.overrun = false := by
  decide +kernel

theorem test_writeRefusedFlagClear_clears :
    (after .writeRefusedFlagClear (writing 0x0003 [] active.refuseWrite)).link.writeRefused = false := by decide +kernel

theorem test_headRecordRemoval_removes_named_head :
    let s := (active.record .bootDone).withLink { active.link with
      frame := .read 0x002F
      snapshot := some { field := .headRecord, bytes := EventRecord.bootDone.bytes, namesRecord := true } }
    (after .headRecordRemoval s).events.records = [] ∧
      (after .headRecordRemoval (s.withLink { s.link with snapshot := none })).events.records = [.bootDone] := by
  decide +kernel

theorem test_pwrupNFall_restores_power_on :
    (after .pwrupNFall active).windows = State.reset.windows ∧ (after .pwrupNFall active).pins.pwrupLow = true := by
  decide +kernel

theorem test_pwrupNRelease_starts_boot_load :
    (after (.pwrupNRelease true) (after .pwrupNFall active)).startUp.state = .pointer ∧
      (after (.pwrupNRelease false) (after .pwrupNFall active)).startUp.state = .none := by decide +kernel

theorem test_rstNFall_suspends_window :
    (after .rstNFall active).windows[(0 : WindowId)].state = .suspended ∧
      (after .rstNFall active).events.records = [] := by decide +kernel

theorem test_rstNRelease_records_reset :
    (after .rstNRelease (after .rstNFall active)).events.records = [.reset .line] := by decide +kernel

theorem test_commandCodeNamingNoCommand_is_refused :
    (after (.commandCodeNamingNoCommand 0x08) (commanding 0 active)).link.result = .refusedArgument := by decide +kernel

/-! ## States that meet the hypotheses of the statements: the part, the system port -/

theorem test_premises_IdleStepTakesOwnEventOrTick :
    let offered := active.withPort { active.port with offered := [request .read 2 0x10000 1] }
    let sending := clean.withPins { clean.pins with mselLow := true, line := [true] }
    (offered.pending = [] ∧ offered.resetHeld = false ∧ offered.port.offered ≠ [] ∧ offered.port.slots[(0 : Fin 8)] = none) ∧
      (active.pending = [] ∧ active.port.offered = [] ∧ active.ownDueFirst .copierTake) ∧
      (sending.pending = [] ∧ sending.port.offered = [] ∧ (∀ n p c, ¬ sending.ownDue n p c) ∧
        sending.nextEdge.isSome = true) ∧
      (clean.pending = [] ∧ clean.port.offered = [] ∧ (∀ n p c, ¬ clean.ownDue n p c) ∧ clean.nextEdge = none) := by
  refine ⟨by decide +kernel, ⟨rfl, rfl, (State.dueEvent_some _ _).1 (by decide +kernel)⟩,
    ⟨rfl, rfl, (State.dueEvent_none _).1 (by decide +kernel), by decide +kernel⟩,
    rfl, rfl, (State.dueEvent_none _).1 (by decide +kernel), by decide +kernel⟩

/-- An event due in each table of log 5, with one due in every later table, is the first. -/
theorem test_premises_IdleStepTakesOwnEventOrTick_order :
    let edge := clean.withTiming { clean.timing with edges := Vector.replicate 2 true }
    let close := edge.setSource 1 { Source.powerOn with closeTimer := .expiring }
    let age := close.setLock 2 (some (lock 1 none))
    let hold := inSlot 5 { routed .write .shadowBank 0x10000 .waiting with hold := some { count := 4, limit := 4 } } age
    let fence := hold.setMemSlot 3 (.fenced 4 4)
    let take := fence.setWindow 0 (window .active .bank0 [] [3])
    edge.ownDueFirst (.syncRisingEdge 0 false) ∧ close.ownDueFirst (.closeTimerExpiry 1) ∧
      age.ownDueFirst (.lockLimitExpiry 2) ∧ hold.ownDueFirst (.holdLimitExpiry 5) ∧ fence.ownDueFirst (.fenceEnd 3) ∧
      (asked memRead .startUp fence).ownDueFirst (.memTimeout 0) ∧ take.ownDueFirst .copierTake ∧
      (inSlot 0 (routed .read .liveBank 0x10000 .ready) take).ownDueFirst .memGrant := by
  simp only [← State.dueEvent_some]
  decide +kernel

theorem test_premises_TickCountsEveryTimer :
    let s := ((((asked memRead .startUp active).setMemSlot 1 (.fenced 4 4)).setLock 0 (some (lock 1 none))).setSource 0
      { Source.powerOn with closeTimer := .running 2 }).setSource 1 { Source.powerOn with closeTimer := .running 1 }
    let waiting := { routed .write .shadowBank 0x100C0 .waiting with hold := some { count := 4, limit := 4 } }
    let u := inSlot 0 waiting (inSlot 1 (issued .read) s)
    let low := u.withPins { u.pins with rstLow := true }
    (u.withPins { u.pins with pwrupLow := true }).pins.pwrupLow = true ∧
      (low.pins.pwrupLow = false ∧ low.pins.rstLow = true ∧ low.mem.slots[(1 : Fin 12)] = .fenced 4 4 ∧
        low.mem.slots[(2 : Fin 12)] = .free) ∧
      u.mem.slots[(2 : Fin 12)] = .free ∧ u.resetHeld = false ∧ u.mem.slots[(0 : Fin 12)] = .pending memRead .startUp 4 4 ∧
      u.mem.slots[(1 : Fin 12)] = .fenced 4 4 ∧
      (u.port.slots[(0 : Fin 8)] = some waiting ∧ waiting.hold = some { count := 4, limit := 4 } ∧ waiting.phase = .waiting) ∧
      (u.port.slots[(1 : Fin 8)] = some (issued .read) ∧ (issued .read).phase ≠ .waiting) ∧
      u.locks[(0 : Fin 4)] = some (lock 1 none) ∧
      (u.timing.sources[(0 : SourceId)].closeTimer = .running 2 ∧ 1 < (2 : BitVec 24).toNat) ∧
      (u.timing.sources[(1 : SourceId)].closeTimer = .running 1 ∧ (1 : BitVec 24).toNat ≤ 1) := by decide +kernel

/-- A state other than reset with every invariant: a window ACTIVE with a line staged and a line to be copied. -/
theorem test_premises_StepKeepsInvariants : active.Inv ∧ ∃ t, step active = .next t :=
  ⟨(State.inv_iff _).2 (by decide +kernel), _, rfl⟩

theorem test_premises_StepKeepsLiveReadCountsExact : active.countsExact ∧ ∃ t, step active = .next t :=
  ⟨fun w b => by cases b <;> revert w <;> decide +kernel, _, rfl⟩

theorem test_premises_StepKeepsCopiesAndWritesApart :
    active.Inv ∧ active.copiesExcludeWrites ∧ ∃ t, step active = .next t :=
  ⟨test_premises_StepKeepsInvariants.1, by decide +kernel, _, rfl⟩

theorem test_premises_StepKeepsTablesWithinBounds :
    (active.events.consistent ∧ active.locksDistinct ∧ active.demandBounded ∧ active.link.limitsPositive ∧
      active.shareBounded ∧ active.setsAscending ∧ active.holdsCounted ∧
      (sevenBits 0xAE .ident active).link.inBits.length ≤ 7 ∧
      ((sevenBits 0xAE .ident active).link.frame.takesBits = false → (sevenBits 0xAE .ident active).link.inBits = []) ∧
      (sevenBits 0xAE .ident active).link.indexHigh = none ∧ (sevenBits 0xAE .ident active).link.mdo = none) ∧
      ∃ t, step active = .next t :=
  ⟨by decide +kernel, _, rfl⟩

/-- Eight transfers that occupy the table. -/
def crowded : State :=
  (places 8).foldl (fun s i => inSlot i { issued .read with acceptance := i.val } s) active

/-- A request stands offered behind the full table. -/
def standing : State := crowded.withPort { crowded.port with offered := [request .read 2 0x10000 1] }

theorem test_premises_OfferedRequestsAreAcceptedAsSlotsFree :
    (active.withPins { active.pins with rstLow := true }).resetHeld = true ∧ (∀ i : Fin 8, crowded.port.slots[i] ≠ none) ∧
      active.takes 0 ∧ active.port.offered = [] ∧
      (let s := active.withPort { active.port with offered := [request .read 2 0x10000 1] }
       s.resetHeld = false ∧ s.port.offered = [request .read 2 0x10000 1] ∧ s.port.slots[(0 : Fin 8)] = none) := by
  decide +kernel

/-- The answer that frees a slot also accepts what stands offered into it (R97). -/
theorem test_premises_OfferedRequestsAreAcceptedAsSlotsFree_standing :
    standing.Inv ∧ ((after (.memResponse 0 .okay [9]) (asked memRead (.transfer 3 .first) standing)).port.slots[(3 : Fin 8)].map
      (·.request)) = some (request .read 2 0x10000 1) :=
  ⟨(State.inv_iff _).2 (by decide +kernel), by decide +kernel⟩

/-- A lock of another master on the first line of W0. -/
def lockedByOther : State := locked (lock 3 none) active

theorem test_premises_RefusedRequestsAreAnsweredInCheckOrder :
    let r := request .read 1 0x10000 1
    (booting.takes 0 ∧ booting.bootInProgress = true) ∧
      (let s := inSlot 0 (issued .read) active
       s.takes 1 ∧ s.bootInProgress = false ∧ s.outstanding r = true) ∧
      (active.takes 0 ∧ active.outstanding r = false ∧ (request .read 1 0x10004 1).aligned = false ∧
        (request .read 1 0x10008 8).aligned = false) ∧
      (active.passesPortChecks (request .read 1 0x20000 1) ∧ active.place 0x20000 = .twin 0 ∧
        active.place 0x20FFF = .twin 0) ∧
      (lockedByOther.takes 0 ∧ lockedByOther.passesPortChecks r ∧ lockedByOther.passesTwinTest r ∧
        lockedByOther.lockTest r = .retry) ∧
      (active.passesPortChecks (request .unlockWrite 1 0x10000 1) ∧
        active.passesTwinTest (request .unlockWrite 1 0x10000 1) ∧
        active.lockTest (request .unlockWrite 1 0x10000 1) = .orphan) ∧
      (let w := request .write 2 0x10000 1
       homing.takes 0 ∧ homing.passesPortChecks w ∧ homing.passesTwinTest w ∧ homing.lockTest w = .routed ∧
         w.kind ≠ .unlockWrite ∧ homing.routing w 0 = .answer .retry none) ∧
      (let w := request .unlockWrite 2 0x10000 1
       let retried := locked (lock 2 none) homing
       let failed := locked (lock 2 none) faulted
       (retried.takes 0 ∧ retried.passesPortChecks w ∧ retried.passesTwinTest w ∧ retried.locksDistinct ∧
         retried.lockTest w = .claims 0 (lock 2 none) ∧ retried.routing w 0 = .answer .retry none ∧
         (after (.requestAcceptance w) retried).locks[(0 : Fin 4)] = some (lock 2 none)) ∧
       failed.takes 0 ∧ failed.passesPortChecks w ∧ failed.passesTwinTest w ∧ failed.locksDistinct ∧
         failed.lockTest w = .claims 0 (lock 2 none) ∧ failed.routing w 0 = .answer .error none ∧
         (after (.requestAcceptance w) failed).locks[(0 : Fin 4)] = none) := by decide +kernel

/-- Every entry of the lock table held, on lines other than that of 0x10000. -/
def locksFull : State :=
  (places 4).foldl (fun s j => s.setLock j (some { lock 1 none with line := BitVec.ofNat 32 (0x30000 + 64 * j.val) })) active

theorem test_premises_PlaceAndInterlockTestsFollowTables :
    (active.place 0x10000 = .home 0 ∧ active.place 0x10FFF = .home 0 ∧ active.place 0x11000 = .miss) ∧
      lockedByOther.locksDistinct ∧ (lock 3 none).line = lineOfAddress 0x10038 ∧
      ((lock 3 none).master ≠ (request .read 1 0x10000 1).master) ∧
      ((lock 1 none).master = (request .read 1 0x10000 1).master ∧ (request .read 1 0x10000 1).kind ≠ .unlockWrite) ∧
      ((lock 1 none).claim = none ∧ (lock 1 (some 0)).claim ≠ none) ∧
      (∀ j : Fin 4, ∀ l ∈ active.locks[j], l.line ≠ lineOfAddress 0x10000) ∧ locksFull.locksDistinct ∧
      (∀ j : Fin 4, ∀ l ∈ locksFull.locks[j], l.line ≠ lineOfAddress 0x10000) ∧
      (∀ j : Fin 4, locksFull.locks[j] ≠ none) ∧ ∃ j : Fin 4, active.locks[j] = none := by decide +kernel

/-- W0 ACTIVE with the foreign policy given. -/
def foreign (policy : ForeignPolicy) : State := part { window .active .bank0 [5] [3] with policy := policy }

theorem test_premises_RoutingFollowsStateAndRole :
    active.place 0x30000 = .miss ∧ active.place 0x10000 = .home 0 ∧
      ((stopped .suspended).place 0x10000 = .home 0 ∧ homing.place 0x10000 = .home 0 ∧ faulted.place 0x10000 = .home 0) ∧
      (active.roleIn 0 1 = .producer ∧ active.roleIn 0 2 = .consumer ∧
        active.groups[active.windows[(0 : WindowId)].group].producers.getLsbD 1 = true) ∧
      (active.windows[(0 : WindowId)].carry.contains (active.windows[(0 : WindowId)].lineIndex 0x100C0) = true ∧
        active.windows[(0 : WindowId)].carry.contains (active.windows[(0 : WindowId)].lineIndex 0x10000) = false) ∧
      ((foreign .error).place 0x10000 = .home 0 ∧ (foreign .drop).place 0x10000 = .home 0 ∧
        (foreign .both).place 0x10000 = .home 0) ∧
      (let r := request .write 1 0x10000 2
       let s := active.setGroup 0 { active.groups[(0 : GroupId)] with trigger := some { window := 0, offset := 1 } }
       s.windows[(0 : WindowId)].group = 0 ∧ s.groups[(0 : GroupId)].trigger = some { window := 0, offset := 1 } ∧
         r.address + BitVec.ofNat 32 (8 * 1) = s.windows[(0 : WindowId)].base + BitVec.ofNat 32 (8 * 1) ∧
         r.lanes.getD 1 0 ≠ 0 ∧ s.triggerMatch 0 r = some 0 ∧ s.triggerMatch 0 (request .write 1 0x10000 1) = none) ∧
      (let u := keptTransfer (request .write 1 0x100C0 1) 0 (some 0) (some .producer) .shadowBank none
       let others := fun n : Nat => active.withDemand ((List.range n).map fun line => { window := 1, line := line })
       let joins := (others 7).withDemand ((others 7).carry.demand ++ [{ window := 0, line := 3 }])
       ((others 8).needsEntry u 0 ∧ 8 ≤ (others 8).carry.demand.length ∧ (others 8).entryFor u 0 ∉ (others 8).carry.demand ∧
         (others 8).routing u.request 0 = .answer .retry none) ∧
       ((others 7).needsEntry u 0 ∧ ¬ 8 ≤ (others 7).carry.demand.length ∧ (others 7).routing u.request 0 = .keep u) ∧
       (joins.needsEntry u 0 ∧ joins.entryFor u 0 ∈ joins.carry.demand ∧ joins.routing u.request 0 = .keep u) ∧
       ¬ (copying (copy .reading true true .demand) (others 8)).needsEntry u 0) := by decide +kernel

theorem test_premises_KeptRequestEntersTable :
    (let r := request .read 2 0x10000 1
     active.takes 0 ∧ active.passesPortChecks r ∧ active.passesTwinTest r ∧ active.lockTest r = .routed ∧
       active.routing r active.port.nextAcceptance = .keep
         { keptTransfer r 0 (some 0) (some .consumer) .liveBank (some 0x10000) with countedBank := some .bank0 }) ∧
      (let r := request .write 1 0x100C0 1
       let u := keptTransfer r 0 (some 0) (some .producer) .shadowBank none
       active.takes 0 ∧ active.passesPortChecks r ∧ active.passesTwinTest r ∧ active.lockTest r = .routed ∧
         active.routing r active.port.nextAcceptance = .keep u ∧ u.countedBank = none ∧
         (∀ j : Fin 8, active.port.slots[j] = none) ∧ active.needsEntry u 0) ∧
      (let r := request .unlockWrite 1 0x10000 1
       let s := locked (lock 1 none) active
       s.takes 0 ∧ s.passesPortChecks r ∧ s.passesTwinTest r ∧ s.lockTest r = .claims 0 (lock 1 none) ∧
         s.routing r s.port.nextAcceptance = .keep (keptTransfer r 0 (some 0) (some .producer) .shadowBank none)) := by
  decide +kernel

theorem test_premises_EachWaitHoldsByItsRule :
    let stale := routed .write .shadowBank 0x100C0 .waiting
    let draining := part { window .active .bank0 [5] [3] with liveReads1 := 1 }
    let full := active.withDemand ((List.range 8).map fun n => { window := 1, line := n })
    let older := { routed .write .passThrough 0x30000 .waiting with window := none, role := none }
    .copyInFlight ∈ (copying (copy .reading true true .demand) active).waits stale ∧
      .drain ∈ draining.waits (routed .write .shadowBank 0x10000 .waiting) ∧
      .drain ∉ draining.waits (routed .write .bothBanks 0x100C0 .waiting) ∧
      .demandLine ∈ (active.withDemand [{ window := 0, line := 3 }]).waits stale ∧ .demandRoom ∈ full.waits stale ∧
      .issueOrder ∈ (inSlot 0 older active).waits { older with acceptance := 1 } ∧
      (stale.phase ≠ .issued ∧ stale.readAddress = none ∧ stale.window = some 0 ∧ stale.route = .shadowBank) ∧
      (routed .read .liveBank 0x10000 .ready).readAddress = some 0x10000 ∧ older.window = none ∧
      (issued .write).phase = .issued ∧ (issued .write).shadow = .absent ∧
      (inSlot 0 stale active).retest.port.slots[(0 : Fin 8)] =
        some { stale with hold := some { count := 0, limit := 4096 } } ∧
      .demandRoom ∈ (inSlot 0 stale full).retest.waits { stale with hold := some { count := 0, limit := 4096 } } := by
  decide +kernel

theorem test_premises_ForeignWriteIsRefusedOrDropped :
    (let r := request .write 2 0x10000 1
     let s := foreign .error
     s.takes 0 ∧ s.passesPortChecks r ∧ s.place r.address = .home 0 ∧ s.windows[(0 : WindowId)].state.servesTwo = true ∧
       s.roleIn 0 r.master = .consumer ∧ s.windows[(0 : WindowId)].policy = .error ∧ r.kind = .write ∧
       s.lockTest r = .routed) ∧
      (let r := request .unlockWrite 2 0x10000 1
       let s := locked (lock 2 none) (foreign .drop)
       s.takes 0 ∧ s.passesPortChecks r ∧ s.place r.address = .home 0 ∧ s.windows[(0 : WindowId)].state.servesTwo = true ∧
         s.roleIn 0 r.master = .consumer ∧ s.windows[(0 : WindowId)].policy = .drop ∧ r.kind = .unlockWrite ∧
         s.locksDistinct ∧ s.lockTest r = .claims 0 (lock 2 none)) := by decide +kernel

theorem test_premises_LockedPairTakesAndClaimsEntry :
    (let r := request .lockedRead 1 0x10000 1
     active.takes 0 ∧ active.passesPortChecks r ∧ active.passesTwinTest r ∧
       active.routing r 0 = .keep (keptTransfer r 0 (some 0) (some .producer) .shadowBank (some 0x20000)) ∧
       (∀ k : Fin 4, ∀ l ∈ active.locks[k], l.line ≠ lineOfAddress r.address) ∧ active.locks[(0 : Fin 4)] = none) ∧
      (let r := request .lockedRead 1 0x10000 1
       let s := locked (lock 1 none) active
       s.takes 0 ∧ s.passesPortChecks r ∧ s.passesTwinTest r ∧ s.locksDistinct ∧ s.locks[(0 : Fin 4)] = some (lock 1 none) ∧
         (lock 1 none).line = lineOfAddress r.address) ∧
      (let r := request .unlockWrite 1 0x10000 1
       let s := locked (lock 1 none) active
       s.takes 0 ∧ s.passesPortChecks r ∧ s.passesTwinTest r ∧
         s.routing r 0 = .keep (keptTransfer r 0 (some 0) (some .producer) .shadowBank none) ∧
         s.lockTest r = .claims 0 (lock 1 none)) := by decide +kernel

/-- A trigger write of master 1 whose write is outstanding. -/
def triggering : Transfer := { issued .write with triggerMatch := some 0 }

theorem test_premises_AnswerSetsItsEffectsInMotion :
    (inSlot 0 (issued .read) active).port.slots[(0 : Fin 8)] = some (issued .read) ∧ (issued .read).triggerMatch = none ∧
      ((inSlot 0 triggering active).port.slots[(0 : Fin 8)] = some triggering ∧ triggering.triggerMatch = some 0 ∧
        (inSlot 0 triggering active).groups[(0 : GroupId)].state = .opened) ∧
      ((inSlot 0 triggering (inGroup (.armed .two true) active)).port.slots[(0 : Fin 8)] = some triggering ∧
        (inSlot 0 triggering (inGroup (.armed .two true) active)).groups[(0 : GroupId)].state = .armed .two true) ∧
      ((inSlot 0 triggering faulted).port.slots[(0 : Fin 8)] = some triggering ∧
        (inSlot 0 triggering faulted).groups[(0 : GroupId)].state = .blocked) := by decide +kernel

theorem test_premises_HoldAndLockLimitsExpire :
    let t := { routed .write .shadowBank 0x100C0 .waiting with hold := some { count := 4, limit := 4 } }
    ((inSlot 0 t active).port.slots[(0 : Fin 8)] = some t ∧ t.phase = .waiting ∧ t.hold = some { count := 4, limit := 4 } ∧
        (inSlot 0 t active).port.offered = []) ∧
      (let c := { routed .unlockWrite .shadowBank 0x100C0 .waiting with hold := some { count := 4, limit := 4 } }
       let l := { lock 1 (some 0) with line := 0x100C0 }
       let s := inSlot 0 c (locked l active)
       s.locks[(0 : Fin 4)] = some l ∧ l.isClaimOf c.request ∧ s.port.slots[(0 : Fin 8)] = some c ∧ c.phase = .waiting ∧
         (after (.holdLimitExpiry 0) s).locks[(0 : Fin 4)] = some { l with claim := none }) ∧
      ((locked (lock 1 none) active).locks[(0 : Fin 4)] = some (lock 1 none) ∧ (lock 1 none).limit ≤ (lock 1 none).age) := by
  decide +kernel

/-! ## The memory port and the carry engine -/

/-- A copier's request of a class waits at the arbiter, with the share counter at a value. -/
def arbitrating (k : CopyRecord) (share : Nat) (s : State) : State :=
  (copying k s).withMem { s.mem with share := share }

theorem test_premises_GrantDecisionFollowsClassesAndShare :
    let ordinary := copy .reading true false .background
    let ready := inSlot 0 (routed .read .liveBank 0x10000 .ready) active
    clean.chooseRequest = none ∧ booting.chooseBoot = some .startUp ∧
      ((copying (copy .reading true false .demand) active).chooseBoot = none ∧
        (copying (copy .reading true false .demand) active).chooseCopy .demandCopy = some (.copier 0)) ∧
      (let s := copying ordinary (inGroup (.armed .one true) (closed active))
       s.chooseCopy .demandCopy = none ∧ s.chooseCopy .urgentCopy = some (.copier 0)) ∧
      (ordinary.origin = .background ∧ (copy .reading true false .demand).origin = .demand ∧
        (let s := inGroup (.armed .one true) (closed active)
         s.groups[s.windows[ordinary.window].group].state.isArmed = true ∧
           s.timing.sources[s.groups[s.windows[ordinary.window].group].source].phase = .closed) ∧
        active.groups[active.windows[ordinary.window].group].state.isArmed = false) ∧
      (let s := arbitrating ordinary 3 ready
       s.chooseCopy .urgentCopy = none ∧ s.chooseUpstream = some (.transfer 0 .first) ∧ s.mem.share ≠ 4) ∧
      (let s := arbitrating ordinary 4 ready
       s.chooseCopy .ordinaryCopy = some (.copier 0) ∧ s.mem.share = 4) ∧
      (let s := arbitrating ordinary 0 active
       s.chooseCopy .ordinaryCopy = some (.copier 0) ∧ s.chooseUpstream = none) ∧
      ((arbitrating { ordinary with granted := true } 4 ready).chooseCopy .ordinaryCopy = none ∧
        (arbitrating { ordinary with granted := true } 4 ready).chooseUpstream = some (.transfer 0 .first)) := by
  decide +kernel

/-- A BOTH transfer whose shadow write is presented to bank 1. -/
def shadowing : Transfer := { issued .write with route := .bothBanks, shadow := .presented .bank1 0x20000 }

theorem test_premises_ArbiterTakesOldestOfClass :
    (copying (copy .writing true false .demand) active).presentedCopy .demandCopy 0 = some (copy .writing true false .demand) ∧
      ((routed .read .liveBank 0x10000 .ready).phase = .ready ∧ (routed .read .liveBank 0x10000 .waiting).phase = .waiting ∧
        (issued .read).phase = .issued ∧ (issued .read).shadow = .absent) ∧
      (inSlot 0 (routed .read .liveBank 0x10000 .ready) active).chooseUpstream = some (.transfer 0 .first) ∧
      active.chooseUpstream = none ∧
      (copying (copy .writing true false .demand) active).chooseCopy .demandCopy = some (.copier 0) ∧
      (shadowing.phase = .issued ∧ shadowing.window = some 0 ∧ shadowing.shadow = .presented .bank1 0x20000) ∧
      (let s := part { window .active .bank0 [5] [3] with liveReads1 := 1 }
       s.windows[(0 : WindowId)].shadow = .bank1 ∧ s.windows[(0 : WindowId)].liveReads .bank1 ≠ 0) ∧
      active.windows[(0 : WindowId)].liveReads .bank1 = 0 ∧
      (part (window .active .bank1 [] [])).windows[(0 : WindowId)].shadow ≠ .bank1 := by decide +kernel

theorem test_premises_GrantIssuesUpstreamRequest :
    (let u := routed .read .liveBank 0x10000 .ready
     let s := inSlot 0 u active
     s.firstFreeMemSlot 0 ∧ s.chooseRequest = some (.upstream, .transfer 0 .first) ∧ s.port.slots[(0 : Fin 8)] = some u ∧
       u.readAddress = some 0x10000 ∧ u.request.kind.isWrite = false) ∧
      (let u := { routed .write .passThrough 0x30000 .ready with window := none, role := none }
       let s := inSlot 0 u active
       s.firstFreeMemSlot 0 ∧ s.chooseRequest = some (.upstream, .transfer 0 .first) ∧ u.readAddress = none ∧
         u.window = none ∧ u.request.address = 0x30000 ∧ u.route ≠ .shadowBank) ∧
      (let u := routed .write .shadowBank 0x10040 .ready
       let s := inSlot 0 u active
       s.firstFreeMemSlot 0 ∧ s.chooseRequest = some (.upstream, .transfer 0 .first) ∧ u.readAddress = none ∧
         u.window = some 0 ∧ u.route ≠ .passThrough ∧
         (0x20040 : Address) =
           s.windows[(0 : WindowId)].bankBase (if u.route = .shadowBank then .bank1 else .bank0)
             + (u.request.address - s.windows[(0 : WindowId)].base)) ∧
      (let u := routed .write .bothBanks 0x10040 .ready
       let s := inSlot 0 u active
       s.firstFreeMemSlot 0 ∧ s.chooseRequest = some (.upstream, .transfer 0 .first) ∧ u.readAddress = none ∧
         u.route = .bothBanks ∧ u.window = some 0 ∧
         (0x10040 : Address) =
           s.windows[(0 : WindowId)].bankBase (if u.route = .shadowBank then .bank1 else .bank0)
             + (u.request.address - s.windows[(0 : WindowId)].base)) := by decide +kernel

theorem test_premises_ProducerWriteStagesItsLineAtIssue :
    (let u := routed .write .shadowBank 0x10040 .ready
     let s := inSlot 0 u active
     s.firstFreeMemSlot 0 ∧ s.chooseRequest = some (.upstream, .transfer 0 .first) ∧ u.route = .shadowBank ∧
       u.window = some 0 ∧ u.request.kind.isWrite = true ∧ u.request.wholeLine = false ∧
       s.windows[(0 : WindowId)].carry.contains (s.windows[(0 : WindowId)].lineIndex u.request.address) = false) ∧
      (let u := keptTransfer (request .write 1 0x100C0 8) 0 (some 0) (some .producer) .shadowBank none
       let s := inSlot 0 u active
       s.firstFreeMemSlot 0 ∧ s.chooseRequest = some (.upstream, .transfer 0 .first) ∧ u.request.wholeLine = true ∧
         s.windows[(0 : WindowId)].carry.contains (s.windows[(0 : WindowId)].lineIndex u.request.address) = true ∧
         LineSet.remove (s.windows[(0 : WindowId)].lineIndex u.request.address) s.windows[(0 : WindowId)].carry = [] ∧
         s.windows[(0 : WindowId)].state = .active) ∧
      (let u := keptTransfer (request .write 1 0x100C0 8) 0 (some 0) (some .producer) .shadowBank none
       let s := inSlot 0 u (part (window .seeding .bank0 [] [3]))
       s.firstFreeMemSlot 0 ∧ s.chooseRequest = some (.upstream, .transfer 0 .first) ∧
         s.windows[(0 : WindowId)].carry.contains (s.windows[(0 : WindowId)].lineIndex u.request.address) = true ∧
         LineSet.remove (s.windows[(0 : WindowId)].lineIndex u.request.address) s.windows[(0 : WindowId)].carry = [] ∧
         s.windows[(0 : WindowId)].state = .seeding) ∧
      (let u := keptTransfer (request .write 1 0x100C0 8) 0 (some 0) (some .producer) .shadowBank none
       let s := inSlot 0 u (part (window .homing .bank1 [] [3]))
       s.firstFreeMemSlot 0 ∧ s.chooseRequest = some (.upstream, .transfer 0 .first) ∧
         s.windows[(0 : WindowId)].carry = [3] ∧ s.windows[(0 : WindowId)].state = .homing) := by
  decide +kernel

theorem test_premises_GrantIssuesCopyShadowAndBootRequests :
    (let k := copy .reading true false .background
     let s := copying k active
     s.firstFreeMemSlot 0 ∧ s.chooseRequest = some (.ordinaryCopy, .copier 0) ∧ s.carry.copiers[(0 : Fin 2)] = .busy k) ∧
      (let k := copy .writing true false .demand
       let s := copying k active
       s.firstFreeMemSlot 0 ∧ s.chooseRequest = some (.demandCopy, .copier 0) ∧ k.phase = .writing) ∧
      (let s := inSlot 0 shadowing active
       s.firstFreeMemSlot 0 ∧ s.chooseRequest = some (.upstream, .transfer 0 .shadow) ∧
         s.port.slots[(0 : Fin 8)] = some shadowing ∧ shadowing.phase = .issued) ∧
      (booting.firstFreeMemSlot 0 ∧ booting.chooseRequest = some (.boot, .startUp) ∧
        booting.startUp.read = some { address := 0x40, beats := 1, granted := false }) := by decide +kernel

theorem test_premises_FencedSlotsEndQuietly :
    (active.setMemSlot 11 (.fenced 4 4)).mem.slots[(11 : Fin 12)] = .fenced 4 4 ∧ active.mem.slots[(0 : Fin 12)] = .free := by
  decide +kernel

theorem test_premises_MemoryResponseEndsTransfer :
    let u := { issued .read with countedBank := some .bank0 }
    let s := asked (transferRequest u 0x10000) (.transfer 0 .first) (inSlot 0 u active)
    s.mem.slots[(0 : Fin 12)] = .pending (transferRequest u 0x10000) (.transfer 0 .first) 4 4 ∧
      s.port.slots[(0 : Fin 8)] = some u ∧ u.phase = .issued ∧ u.first = .outstanding 0x10000 ∧ u.shadow = .absent ∧
      s.port.offered = [] ∧ u.triggerMatch = none ∧ u.window = some 0 ∧ u.countedBank = some .bank0 ∧
      (issued .read).countedBank = none := by decide +kernel

/-- The write of a transfer is outstanding in memory slot 0. -/
def answering (u : Transfer) (s : State) : State :=
  asked (transferRequest u 0x10000) (.transfer 0 .first) (inSlot 0 u s)

theorem test_premises_MemoryResponseEndsTransfer_trigger :
    let armed := inGroup (.armed .two true) active
    let t := fun s : State => after (.memResponse 0 .okay []) (answering triggering s)
    (triggering.phase = .issued ∧ triggering.first = .outstanding 0x10000 ∧ triggering.shadow = .absent ∧
        triggering.triggerMatch = some 0) ∧
      ((answering triggering active).groups[(0 : GroupId)].state = .opened ∧
        (t active).groups[(0 : GroupId)].state = .armed .one false) ∧
      ((answering triggering armed).groups[(0 : GroupId)].state = .armed .two true ∧ (t armed).groups = armed.groups) ∧
      ((answering triggering faulted).groups[(0 : GroupId)].state = .blocked ∧
        (t faulted).events.records = [.armRefused 0 (some 1)]) ∧
      (after (.memResponse 0 .error []) (answering triggering active)).groups = active.groups := by decide +kernel

theorem test_premises_MemoryResponseEndsTransfer_claim :
    let u := issued .unlockWrite
    let s := answering u (locked (lock 1 (some 0)) active)
    (s.locks[(0 : Fin 4)] = some (lock 1 (some 0)) ∧ (lock 1 (some 0)).isClaimOf u.request ∧
        ¬ (lock 1 (some 1)).isClaimOf u.request) ∧
      (after (.memResponse 0 .okay []) s).locks[(0 : Fin 4)] = none ∧
      (after (.memResponse 0 .error []) s).locks[(0 : Fin 4)] = none ∧
      (after (.memTimeout 0) s).locks[(0 : Fin 4)] = none ∧
      (after (.memTimeout 0) (answering u (locked (lock 1 (some 1)) active))).locks[(0 : Fin 4)] =
        some (lock 1 (some 1)) := by decide +kernel

theorem test_premises_BothTransferWaitsForBothResults :
    (let s := asked memWrite (.transfer 0 .first) (inSlot 0 shadowing active)
     s.port.slots[(0 : Fin 8)] = some shadowing ∧ shadowing.phase = .issued ∧ shadowing.request.kind.isWrite = true ∧
       memWrite.kind = .write ∧ s.mem.slots[(0 : Fin 12)] = .pending memWrite (.transfer 0 .first) 4 4 ∧
       s.port.offered = [] ∧ shadowing.first = .outstanding 0x10000 ∧ shadowing.shadow.done = false) ∧
      (let u := { shadowing with shadow := .outstanding 0x20000 }
       let s := asked memWrite (.transfer 0 .shadow) (inSlot 0 u active)
       s.port.slots[(0 : Fin 8)] = some u ∧ s.mem.slots[(0 : Fin 12)] = .pending memWrite (.transfer 0 .shadow) 4 4 ∧
         u.shadow = .outstanding 0x20000 ∧ u.first.done = false) ∧
      (let u := { shadowing with first := .answered 0x10000 true, shadow := .outstanding 0x20000 }
       let s := asked memWrite (.transfer 0 .shadow) (inSlot 0 u active)
       s.port.slots[(0 : Fin 8)] = some u ∧ s.mem.slots[(0 : Fin 12)] = .pending memWrite (.transfer 0 .shadow) 4 4 ∧
         u.triggerMatch = none ∧
         (after (.memResponse 0 .okay []) (asked memWrite (.transfer 0 .shadow)
            (inSlot 0 { u with triggerMatch := some 0 } active))).groups[(0 : GroupId)].state = .armed .one false) ∧
      (let u := { shadowing with shadow := .answered 0x20000 false }
       let s := asked memWrite (.transfer 0 .first) (inSlot 0 u active)
       s.port.slots[(0 : Fin 8)] = some u ∧ s.mem.slots[(0 : Fin 12)] = .pending memWrite (.transfer 0 .first) 4 4) := by
  decide +kernel

theorem test_premises_CopyReadFillsBufferUnlessDisowned :
    let q := copyRequest (copy .reading true true .background)
    (let s := asked q (.copier 0) (copying (copy .reading true true .background) active)
     s.mem.slots[(0 : Fin 12)] = .pending q (.copier 0) 4 4 ∧
       s.carry.copiers[(0 : Fin 2)] = .busy (copy .reading true true .background) ∧ s.port.offered = [] ∧
       q.kind = .read ∧
       (List.replicate 8 (5 : Beat)).length = q.beats) ∧
      (let s := asked q (.copier 0) (copying (copy .reading false true .background) active)
       s.mem.slots[(0 : Fin 12)] = .pending q (.copier 0) 4 4 ∧
         s.carry.copiers[(0 : Fin 2)] = .busy (copy .reading false true .background)) := by decide +kernel

/-- The write of a copy of line 3 is outstanding. -/
def copyWriting (s : State) : State :=
  asked (copyRequest (copy .writing true true .background)) (.copier 0) (copying (copy .writing true true .background) s)

theorem test_premises_CopyWriteRemovesLine :
    let q := copyRequest (copy .writing true true .background)
    let seeding := part (window .seeding .bank0 [] [3])
    ((copyWriting active).mem.slots[(0 : Fin 12)] = .pending q (.copier 0) 4 4 ∧
        (copyWriting active).carry.copiers[(0 : Fin 2)] = .busy (copy .writing true true .background) ∧
        (copyWriting active).port.offered = [] ∧ (copyWriting active).windows[(0 : WindowId)].state = .active) ∧
      (let marked := active.setGroup 0 { active.groups[(0 : GroupId)] with rollbackPending := true }
       (after (.memResponse 0 .okay []) (copyWriting marked)).events.records = [.rollbackDone 0]) ∧
      ((copyWriting seeding).port.offered = [] ∧ (copyWriting seeding).windows[(0 : WindowId)].state = .seeding ∧
        LineSet.remove 3 (copyWriting seeding).windows[(0 : WindowId)].carry = []) ∧
      ((copyWriting homing).port.offered = [] ∧ (copyWriting homing).windows[(0 : WindowId)].state = .homing ∧
        LineSet.remove 3 (copyWriting homing).windows[(0 : WindowId)].carry = []) := by decide +kernel

theorem test_premises_FailedCopyFaultsWindow :
    let q := copyRequest (copy .writing true true .background)
    let armed := inGroup (.armed .two false) active
    ((copyWriting active).mem.slots[(0 : Fin 12)] = .pending q (.copier 0) 4 4 ∧
        (copyWriting active).carry.copiers[(0 : Fin 2)] = .busy (copy .writing true true .background) ∧
        (copyWriting active).port.offered = [] ∧ (copyWriting active).groups[(0 : GroupId)].state.isArmed = false) ∧
      ((copyWriting armed).port.offered = [] ∧ (copyWriting armed).groups[(0 : GroupId)].state.isArmed = true) := by
  decide +kernel

/-- The write of a copy of W0 is outstanding, beside an UNLOCK_WRITE that has claimed its entry, a demand entry and a copy of
W1. -/
def copyFailing : State :=
  (copyWriting ((claimed .shadowBank active).withDemand
    [{ window := 0, line := 3 }, { window := 1, line := 4 }])).setCopier 1
    (.busy { copy .reading false true .background with window := 1, source := 0x40000, destination := 0x50000 })

theorem test_premises_FailedCopyFaultsWindow_claim :
    copyFailing.Inv ∧
      ((routed .unlockWrite .shadowBank 0x10000 .ready).isPendingWrite copyFailing.windows[(0 : WindowId)].inRanges ∧
        (lock 1 (some 0)).isClaimOf (routed .unlockWrite .shadowBank 0x10000 .ready).request) ∧
      (let t := after (.memResponse 0 .error []) copyFailing
       t.locks[(0 : Fin 4)] = none ∧ t.locks[(1 : Fin 4)] = copyFailing.locks[(1 : Fin 4)] ∧
         t.carry.demand = [{ window := 1, line := 4 }] ∧
         t.carry.copiers[(1 : Fin 2)] = copyFailing.carry.copiers[(1 : Fin 2)] ∧
         t.windows[(1 : WindowId)] = copyFailing.windows[(1 : WindowId)]) :=
  ⟨(State.inv_iff _).2 (by decide +kernel), by decide +kernel⟩

theorem test_premises_TimeoutRecordsFencesAndFails :
    (let s := asked memRead (.transfer 0 .first) (inSlot 0 (issued .read) active)
     s.mem.slots[(0 : Fin 12)] = .pending memRead (.transfer 0 .first) 4 4 ∧ s.port.slots[(0 : Fin 8)] = some (issued .read) ∧
       (issued .read).phase = .issued ∧ (issued .read).first = .outstanding 0x10000 ∧ (issued .read).shadow = .absent) ∧
      ((copyWriting active).carry.copiers[(0 : Fin 2)] = .busy (copy .writing true true .background) ∧
        (copyWriting active).port.offered = []) ∧
      (asked memRead (.copier 0) (copying (copy .reading false true .background) active)).carry.copiers[(0 : Fin 2)] =
        .busy (copy .reading false true .background) ∧
      (asked memRead .startUp booting).mem.slots[(0 : Fin 12)] = .pending memRead .startUp 4 4 := by decide +kernel

theorem test_premises_CandidatesAreTakenInOrder :
    active.setsAscending ∧ active.firstCandidate = some (0, 3, .background) ∧
      (active.withDemand [{ window := 0, line := 3 }]).firstCandidate = some (0, 3, .demand) ∧
      (inGroup (.armed .one true) (closed active)).urgent 0 = true ∧ clean.firstCandidate = none := by decide +kernel

theorem test_premises_CopierTakesFirstCandidate :
    active.carry.copiers[(0 : Fin 2)] = .idle ∧ active.firstCandidate = some (0, 3, .background) ∧
      (let s := copying (copy .reading true true .background) (part (window .active .bank0 [] [3, 4]))
       s.carry.copiers[(1 : Fin 2)] = .idle ∧ (∀ d : Fin 2, d < 1 → s.carry.copiers[d] ≠ .idle) ∧
         s.firstCandidate = some (0, 4, .background)) := by decide +kernel

/-! ## Sources, groups and commands -/

/-- A sample of SYNC0 has found an edge. -/
def edgeFound : State := active.withTiming { active.timing with edges := active.timing.edges.set (0 : Fin 2) true }

theorem test_premises_SyncSamplesAndCloseTimerMoveSources :
    ((active.withPins { active.pins with pwrupLow := true }).resetHeld = true ∧ active.resetHeld = false) ∧
      (active.tick.timing.lastSample[(0 : Fin 2)] = some false ∧ active.timing.edges[(0 : Fin 2)] = false) ∧
      (edgeFound.timing.edges[(0 : Fin 2)] = true ∧ edgeFound.resetHeld = false ∧
        (edgeFound.withPins { active.pins with rstLow := true }).resetHeld = true) ∧
      (active.setSource 0 { Source.powerOn with closeTimer := .expiring }).timing.sources[(0 : SourceId)].closeTimer =
        .expiring := by decide +kernel

theorem test_premises_BoundaryAdvancesItsSource :
    (commanding 0 active).takesCommand ∧ (0 : SourceId) ≠ 2 ∧ active.groups[(0 : GroupId)].source ≠ 2 ∧
      active.groups[(0 : GroupId)].source = 0 ∧ active.groups[active.windows[(0 : WindowId)].group].source = 0 := by decide +kernel

theorem test_premises_FlipGateTestsThreeConditions :
    (inGroup (.armed .one false) clean).gatePasses 0 = true ∧ active.gatePasses 0 = false ∧
      (locked (lock 1 none) clean).gatePasses 0 = false ∧ (locked (lock 3 none) clean).gatePasses 0 = true ∧
      (stopped .suspended).gatePasses 0 = true ∧ homing.gatePasses 0 = false := by decide +kernel

theorem test_premises_GroupTakesBoundaryByState :
    active.groups[(0 : GroupId)].state.isArmed = false ∧
      (inGroup (.armed .one true) active).groups[(0 : GroupId)].state = .armed .one true ∧
      ((inGroup (.armed .two false) active).groups[(0 : GroupId)].state = .armed .two false ∧
        (inGroup (.armed .two false) active).groups[(0 : GroupId)].hold = false) ∧
      ((inGroup (.armed .one false) active).groups[(0 : GroupId)].hold = false ∧
        (inGroup (.armed .one false) active).gatePasses 0 = false) ∧
      ((inGroup (.armed .one false) clean).groups[(0 : GroupId)].hold = false ∧
        (inGroup (.armed .one false) clean).gatePasses 0 = true) := by decide +kernel

theorem test_premises_CommandsAreRefusedByTestsInOrder :
    let small := { window .disabled .bank0 [] [] with sizeCode := 11 }
    let same := { window .disabled .bank0 [] [] with twin := 0x10000 }
    ((commanding 0 booting).byteFrame = .write 0x0001 ∧ (commanding 0 booting).bootInProgress = true) ∧
      (8 ≤ (0x08 : Byte).toNat ∧ 8 ≤ (0xFF : Byte).toNat) ∧
      ((commanding 16 active).bootInProgress = false ∧ 16 ≤ (commanding 16 active).link.argument.toNat) ∧
      4 ≤ (commanding 4 active).link.argument.toNat ∧
      ((commanding 0 active).takesCommand ∧ (commanding 0 active).link.argument.toNat = (0 : WindowId).val ∧
        (commanding 0 active).windows[(0 : WindowId)].state = .active) ∧
      ((commanding 0 (part small)).takesCommand ∧ (commanding 0 (part small)).windows[(0 : WindowId)].sizeCode.toNat < 12) ∧
      ((commanding 0 (part same)).takesCommand ∧ (commanding 0 (part same)).windows[(0 : WindowId)].selfOverlap = true ∧
        (commanding 0 (part same)).enableTest 0 = .refusedOverlap) := by decide +kernel

theorem test_premises_EnableStartsSeeding :
    (commanding 0 (stopped .disabled)).Inv ∧ (commanding 0 (stopped .disabled)).takesCommand ∧
      (commanding 0 (stopped .disabled)).link.argument.toNat = (0 : WindowId).val ∧
      (commanding 0 (stopped .disabled)).enableTest 0 = .accepted ∧ (commanding 0 (stopped .disabled)).port.offered = [] ∧
      (commanding 0 faulted).groups[(0 : GroupId)].state = .blocked ∧ (commanding 0 faulted).enableTest 0 = .accepted :=
  ⟨(State.inv_iff _).2 (by decide +kernel), by decide +kernel⟩

/-- W0 ACTIVE, the command frame open, with every invariant. -/
theorem commanding_active_Inv : (commanding 0 active).Inv :=
  (State.inv_iff _).2 (by decide +kernel)

/-- W0 ACTIVE with LIVE = 1, the command frame open. -/
def commandingFlipped : State := commanding 0 (part (window .active .bank1 [5] [3]))

theorem test_premises_DisableTurnsOffOrHomes_flipped :
    commandingFlipped.Inv ∧ commandingFlipped.takesCommand ∧ commandingFlipped.port.offered = [] ∧
      commandingFlipped.windows[(0 : WindowId)].state = .active ∧
      commandingFlipped.windows[(0 : WindowId)].live = .bank1 ∧
      (after .disable commandingFlipped).windows[(0 : WindowId)].state = .homing :=
  ⟨(State.inv_iff _).2 (by decide +kernel), by decide +kernel⟩

theorem test_premises_DisableTurnsOffOrHomes :
    (commanding 0 active).Inv ∧ (commanding 0 active).takesCommand ∧ (commanding 0 active).port.offered = [] ∧
      (commanding 0 active).link.argument.toNat = (0 : WindowId).val ∧
      (commanding 0 active).windows[(0 : WindowId)].state ≠ .disabled ∧
      (commanding 0 active).windows[(0 : WindowId)].state ≠ .homing ∧
      (commanding 0 active).windows[(0 : WindowId)].live = .bank0 ∧
      (commanding 0 (stopped .disabled)).windows[(0 : WindowId)].state = .disabled ∧
      (commanding 0 homing).windows[(0 : WindowId)].state = .homing :=
  ⟨commanding_active_Inv, by decide +kernel⟩

/-- A write not yet issued has a claim when its window changes state (R22, R122). -/
theorem test_premises_claims_lifted :
    let pending := routed .unlockWrite .shadowBank 0x10000 .ready
    let live := routed .unlockWrite .liveBank 0x10000 .ready
    let suspended := claimed .liveBank (stopped .suspended)
    (pending.isPendingWrite active.windows[(0 : WindowId)].inRanges ∧
        live.isPendingWrite suspended.windows[(0 : WindowId)].inRanges ∧
        (lock 1 (some 0)).isClaimOf pending.request ∧ (lock 1 (some 0)).isClaimOf live.request ∧
        ¬ { lock 2 (some 0) with line := 0x10040 : Lock }.isClaimOf pending.request) ∧
      settledTo (some (lock 1 none)) (after .disable (commanding 0 (claimed .shadowBank active))) ∧
      settledTo (some (lock 1 none)) (after .suspend (commanding 0 (claimed .shadowBank active))) ∧
      settledTo (some (lock 1 none)) (after .enable (commanding 0 suspended)) ∧
      settledTo (some (lock 1 none)) (after (.windowConfigWrite 0x00)
        (writing 0x0103 [(0x0102, 0x03), (0x0101, 0x00), (0x0100, 0x00)] suspended)) := by
  decide +kernel

theorem test_premises_claims_lifted_Inv :
    (commanding 0 (claimed .shadowBank active)).Inv ∧ (commanding 0 (claimed .liveBank (stopped .suspended))).Inv :=
  ⟨(State.inv_iff _).2 (by decide +kernel), (State.inv_iff _).2 (by decide +kernel)⟩

theorem test_premises_SuspendStopsPublishing :
    (commanding 0 active).Inv ∧ (commanding 0 active).takesCommand ∧ (commanding 0 active).port.offered = [] ∧
      (commanding 0 active).link.argument.toNat = (0 : WindowId).val ∧
      (commanding 0 active).windows[(0 : WindowId)].state = .active ∧
      (commanding 0 (stopped .suspended)).windows[(0 : WindowId)].state = .suspended ∧
      (commanding 0 homing).windows[(0 : WindowId)].state = .homing :=
  ⟨commanding_active_Inv, by decide +kernel⟩

theorem test_premises_PublishArmsItsGroup :
    (commanding 0 active).takesCommand ∧ (commanding 0 active).link.argument.toNat = (0 : GroupId).val ∧
      (commanding 0 active).groups[(0 : GroupId)].state = .opened ∧
      (commanding 0 (inGroup (.armed .two true) active)).groups[(0 : GroupId)].state.isArmed = true ∧
      (commanding 0 faulted).groups[(0 : GroupId)].state = .blocked := by decide +kernel

theorem test_premises_RollbackReturnsStagedLines :
    (commanding 0 active).takesCommand ∧ (commanding 0 active).link.argument.toNat = (0 : GroupId).val ∧
      (commanding 0 active).port.offered = [] ∧ (commanding 0 active).windows[(0 : WindowId)].group = 0 ∧
      (commanding 0 active).windows[(0 : WindowId)].state = .active ∧
      (let s := clean.setGroup 0 { clean.groups[(0 : GroupId)] with rollbackPending := true }
       s.groups[(0 : GroupId)].rollbackPending = true ∧
         ∀ w : WindowId, s.windows[w].group = 0 → s.windows[w].carry = []) ∧
      ∃ w : WindowId, active.windows[w].group = 0 ∧ active.windows[w].carry ≠ [] := by decide +kernel

theorem test_premises_SoftResetTakesEveryBlock : (commanding 0 active).takesCommand ∧ (commanding 0 active).port.offered = [] := by decide +kernel

/-! ## The management link, resets and the boot load -/

theorem test_premises_FrameEventsMoveFrameState :
    (active.pins.mselLow = false ∧ active.resetHeld = false) ∧
      ((active.withPins { active.pins with rstLow := true }).pins.mselLow = false ∧
        (active.withPins { active.pins with rstLow := true }).resetHeld = true) ∧
      (after .frameOpen active).pins.mselLow = true ∧ (after .frameOpen active).byteFrame = .ident ∧
      (after (.identifierByte 0x2E) (after .frameOpen active)).byteFrame = .index .writeFrame ∧
      (after (.identifierByte 0xAE) (after .frameOpen active)).byteFrame = .index .readFrame := by decide +kernel

theorem test_premises_SerialBitsMakeBytes :
    let s := sevenBits 0xAE .ident active
    (active.pins.mselLow = false ∧ (after .frameOpen active).pins =
          { active.pins with mselLow := true, mclkHigh := false, line := [] } ∧
        ({ active.pins with mselLow := true, mclkHigh := true } : Pins).mclkHigh = true ∧
        ({ active.pins with mselLow := true, line := [true] } : Pins).line = [true]) ∧
      (active.link.frame = .idle ∧ (after .frameOpen active).link.frame = .ident ∧
        (after .frameOpen active).link.inBits = []) ∧
      (s.link.inBits ++ [false] = (List.range 8).map (0xAE : Byte).getMsbD ∧ s.link.frame = .ident) ∧
      ((sevenBits 0x01 (.index .readFrame) active).link.inBits ++ [true] = (List.range 8).map (0x01 : Byte).getMsbD ∧
        (sevenBits 0x01 (.index .readFrame) active).link.indexHigh = none) ∧
      (let u := sevenBits 0x01 (.index .writeFrame) active
       (u.withLink { u.link with indexHigh := some 1 }).link.indexHigh = some 1 ∧ u.link.frame = .index .writeFrame) ∧
      ((sevenBits 0x01 (.read 0x002F) active).link.frame = .read 0x002F ∧
        ((sevenBits 0x01 (.read 0x002F) active).withLink
          { (sevenBits 0x01 (.read 0x002F) active).link with out := some 5 }).link.out = some 5 ∧
        (sevenBits 0x01 (.read 0x002F) active).link.inBits ≠ []) ∧
      ((sevenBits 0x01 (.write 0x0001) active).link.frame = .write 0x0001 ∧
        (sevenBits 0x01 (.write 0x0001) active).link.indexHigh = none ∧ dataByteRow 0x0001 0x01 = .enable) := by
  decide +kernel

theorem test_premises_ReadBytesFollowSnapshotAndRemoveHead :
    fieldAt 0x011C = none ∧ fieldAt 0x0020 = some (.headRecord, 0) ∧ fieldAt 0x002F = some (.headRecord, 15) ∧
      (let n : Snapshot := { field := .headRecord, bytes := EventRecord.bootDone.bytes, namesRecord := true }
       let s := active.withLink { active.link with frame := .read 0x002F, snapshot := some n }
       s.byteFrame = .read 0x002F ∧ s.link.snapshot = some n ∧ n.field = .headRecord ∧ n.namesRecord = true) ∧
      (∀ n ∈ active.link.snapshot, n.field ≠ .headRecord ∨ n.namesRecord = false) := by decide +kernel

theorem test_premises_FieldsShowTheirLayouts :
    ((0x002F : Index).toNat = 0 + 0x20 + 15 ∧ fieldAt 0x002F = some (.headRecord, 15)) ∧
      ((0x02FB : Index).toNat = 0x0100 + 32 * (15 : WindowId).val + 0x0C + 15 ∧
        fieldAt 0x02FB = some (.windowStatus 15, 15) ∧ fieldAt 0x02FC = none) ∧
      ((0x043F : Index).toNat = 0x0400 + 16 * (3 : GroupId).val + 0x09 + 6 ∧
        fieldAt 0x043F = some (.groupStatus 3, 6) ∧ fieldAt 0x0440 = none) ∧
      ((0x04AA : Index).toNat = 0x0480 + 16 * (2 : SourceId).val + 0x08 + 2 ∧
        fieldAt 0x04AA = some (.sourceCloseTimer 2, 2) ∧ fieldAt 0x04AB = none ∧ fieldAt 0xFFFF = none) ∧
      active.events.records = [] ∧ (active.record .bootDone).events.records = [.bootDone] ∧
      active.groups[(0 : GroupId)].trigger = none ∧
      (active.setGroup 0 { Group.powerOn with trigger := some { window := 15, offset := 131071 } }).groups[(0 : GroupId)].trigger =
        some { window := 15, offset := 131071 } := by decide +kernel

theorem test_premises_FieldBytesAreStagedTakenOrRefused :
    (writing 0xFFFF [] active).byteFrame = .write 0xFFFF ∧ (writing 0xFFFF [] active).bootInProgress = false ∧
      fieldAt 0xFFFF = none ∧
      (fieldAt 0x010B = some (.windowEnableAtBoot 0, 0) ∧ (Field.windowEnableAtBoot 0).readOnly = true) ∧
      (fieldAt 0x0102 = some (.windowBase 0, 2) ∧ (Field.windowBase 0).readOnly = false ∧
        2 + 1 < (Field.windowBase 0).width) ∧
      ((writing 0x0000 [] booting).byteFrame = .write 0x0000 ∧ (writing 0x0003 [] booting).bootInProgress = true ∧
        fieldAt 0x0004 = some (.holdLimit, 0) ∧ dataByteRow 0x0005 1 = .limitWrite 1) := by decide +kernel

theorem test_premises_WindowModeBytesNeedStoppedWindow :
    let last := part (window .disabled .bank0 [] [])
    (active.bootInProgress = false ∧ active.port.offered = [] ∧ active.windows[(0 : WindowId)].state = .active) ∧
      ((stopped .suspended).port.offered = [] ∧ (stopped .suspended).windows[(0 : WindowId)].state = .suspended) ∧
      last.windows[(15 : WindowId)].state = .disabled ∧
      (0x0109 : Index).toNat = 0x0109 + 32 * (0 : WindowId).val ∧
      (0x02E9 : Index).toNat = 0x0109 + 32 * (15 : WindowId).val ∧
      (0x02EA : Index).toNat = 0x010A + 32 * (15 : WindowId).val ∧
      (3 : Byte).toNat = (3 : GroupId).val ∧ 4 ≤ (4 : Byte).toNat ∧ (2 : Byte) = ForeignPolicy.both.byte := by
  decide +kernel

/-- W0 SUSPENDED with the bytes of a base staged and the next byte to commit it. -/
def rebasing (low : Byte) : State :=
  writing 0x0103 [(0x0102, 0x03), (0x0101, low), (0x0100, 0x00)] (stopped .suspended)

theorem test_premises_RangeBytesCommitByWindowState :
    let after := fun base : Address => { window .suspended .bank0 [] [] with base := base }
    ((0x0103 : Index).toNat = 0x0103 + 32 * (0 : WindowId).val ∧ (0x02E7 : Index).toNat = 0x0107 + 32 * (15 : WindowId).val ∧
        (0x02E8 : Index).toNat = 0x0108 + 32 * (15 : WindowId).val) ∧
      ((rebasing 0).byteFrame = .write 0x0103 ∧ (rebasing 0).bootInProgress = false ∧
        (rebasing 0).lowerBytes (.windowBase 0) 0x0103 [0x00, 0x00, 0x03] ∧
        (writing 0x0103 [(0x0102, 0x03)] (stopped .suspended)).lowerBytes (.windowBase 0) 0x0103 [0x00, 0x00, 0x03] ∧
        (writing 0x0107 [] (stopped .suspended)).lowerBytes (.windowTwin 0) 0x0107 [0x00, 0x00, 0x02] ∧
        (rebasing 0).windows[(0 : WindowId)].state = .suspended ∧ (rebasing 0).port.offered = []) ∧
      (after 0x00030000 ≠ window .suspended .bank0 [] [] ∧ (after 0x00030000).rangesValid = true) ∧
      (after 0x00030100).rangesValid = false ∧
      (after 0x00010000 = window .suspended .bank0 [] [] ∧ (after 0x00010000).rangesValid = true) ∧
      (stopped .disabled).windows[(0 : WindowId)].state = .disabled ∧ active.windows[(0 : WindowId)].state = .active := by
  decide +kernel

theorem test_premises_RangeBytesCommitByWindowState_Inv : (rebasing 0).Inv :=
  (State.inv_iff _).2 (by decide +kernel)

theorem test_premises_GroupBytesFollowGroupState :
    let trigger := writing 0x0408 [(0x0407, 1), (0x0406, 0xFF), (0x0405, 16)] active
    ((0x0401 : Index).toNat = 0x0401 + 16 * (0 : GroupId).val ∧ (0x0438 : Index).toNat = 0x0408 + 16 * (3 : GroupId).val) ∧
      (trigger.lowerBytes (.groupTrigger 0) 0x0408 [16, 0xFF, 1] ∧
        (writing 0x0408 [(0x0407, 1)] active).lowerBytes (.groupTrigger 0) 0x0408 [0, 0, 1] ∧
        (writing 0x0401 [] active).lowerBytes (.groupProducers 0) 0x0401 [0x02] ∧
        (16 : Byte).toNat = (15 : WindowId).val + 1 ∧
        ((0x00 : Byte) ++ (0x01 : Byte) ++ (0xFF : Byte)).toNat ≤ 131071) ∧
      (131072 ≤ ((0x02 : Byte) ++ (0x00 : Byte) ++ (0x00 : Byte)).toNat ∧ 17 ≤ (17 : Byte).toNat) ∧
      ((2 : Byte).toNat = (2 : SourceId).val ∧ 3 ≤ (3 : Byte).toNat) ∧
      active.groups[(0 : GroupId)].state = .opened ∧
      (let held := closed (inGroup (.armed .two false) active)
       let s := held.setGroup 0 { held.groups[(0 : GroupId)] with hold := true }
       s.groups[(0 : GroupId)].hold = true ∧ s.groups[(0 : GroupId)].state = .armed .two false ∧
         s.timing.sources[s.groups[(0 : GroupId)].source].phase = .closed) ∧
      (active.groups[(0 : GroupId)].hold = false ∧ active.groups[(0 : GroupId)].state.isArmed = false) := by decide +kernel

theorem test_premises_CloseDelaysAndLimitsCommitAtTheirHighestByte :
    let s := writing 0x04A7 [(0x04A6, 2), (0x04A5, 1)] active
    (s.bootInProgress = false ∧ s.byteFrame = .write 0x04A7 ∧
        (0x04A7 : Index).toNat = 0x0487 + 16 * (2 : SourceId).val ∧
        s.lowerBytes (.sourceCloseDelay 2) 0x04A7 [1, 2] ∧
        (writing 0x04A7 [(0x04A6, 2)] active).lowerBytes (.sourceCloseDelay 2) 0x04A7 [0, 2]) ∧
      ((writing 0x0005 [(0x0004, 0)] active).lowerBytes .holdLimit 0x0005 [0] ∧
        (writing 0x0005 [] (active.withLink { active.link with holdLimit := 0x1234 })).lowerBytes .holdLimit 0x0005 [0x34] ∧
        (writing 0x0007 [(0x0006, 5)] active).lowerBytes .lockLimit 0x0007 [5] ∧
        (writing 0x0009 [(0x0008, 5)] active).lowerBytes .memoryLimit 0x0009 [5]) ∧
      ((0 : Byte) ++ (0 : Byte) = (0 : BitVec 16) ∧ (0xFF : Byte) ++ (0xFF : Byte) ≠ (0 : BitVec 16)) := by decide +kernel

theorem test_premises_MaskCommitsAndFlagsClear :
    let s := writing 0x000F [(0x000E, 3), (0x000D, 2), (0x000C, 1)] active
    (s.bootInProgress = false ∧ s.byteFrame = .write 0x000F ∧
        s.lowerBytes .eventMask 0x000F [1, 2, 3] ∧
        (writing 0x000F [] (active.withEvents (active.events.setMask 0x00040302))).lowerBytes .eventMask 0x000F
          [0x02, 0x03, 0x04]) ∧
      (writing 0x0011 [] active).byteFrame = .write 0x0011 ∧ (writing 0x0003 [] active).byteFrame = .write 0x0003 := by
  decide +kernel

theorem test_premises_RecordsJoinTailOrAreDiscarded :
    let full := active.withEvents { active.events with records := List.replicate 32 .bootDone }
    let last := active.withEvents { active.events with records := List.replicate 31 .bootDone }
    (last.events.consistent ∧ last.events.records.length < 32) ∧
      (full.events.consistent ∧ 32 ≤ full.events.records.length) := by decide +kernel

theorem test_premises_PowerOnFallRestoresPowerOnValues : active.pins.pwrupLow = false := by decide

theorem test_premises_LineResetFallTakesEveryBlock :
    (active.pins.rstLow = false ∧ active.pins.pwrupLow = false) ∧
      ((after .pwrupNFall active).pins.rstLow = false ∧ (after .pwrupNFall active).pins.pwrupLow = true) := by
  decide +kernel

theorem test_premises_ReleasesRecordAndStartOrEndBootLoad :
    let low := after .rstNFall active
    let both := after .rstNFall (after .pwrupNFall active)
    (low.port.offered = [] ∧ both.port.offered = [] ∧ (after .pwrupNFall active).port.offered = []) ∧
      ((after .pwrupNFall active).pins.pwrupLow = true ∧ (after .pwrupNFall active).pins.rstLow = false) ∧
      (both.pins.pwrupLow = true ∧ both.pins.rstLow = true) ∧
      (low.pins.rstLow = true ∧ low.pins.pwrupLow = false ∧ low.startUp.state = .none) ∧
      (after (.pwrupNRelease true) both).startUp.state = .pending ∧
      (after .rstNFall booting).startUp.state = .pointer := by decide +kernel

/-- The header of an image of one window record and no group record. -/
def header : Beat := 0x0000000132544645

/-- A good image of one group record and one window record, which is marked for ENABLE. -/
def image : List Byte :=
  let body : List Byte := [0x45, 0x46, 0x54, 0x32, 1, 1, 0, 0] ++
    [3, 0x02, 0x00, 2, 2, 1, 1, 15, 0xFF, 0xFF, 0x01, 0, 0, 0, 0, 0] ++
    [15, 0, 0, 1, 0, 0, 0, 2, 0, 12, 3, 2, 1, 0, 0, 0]
  body ++ bytesOf (0 - wordSum body).toNat 4

/-- The body of the image is awaited, in memory slot 0. -/
def imaging : State :=
  (booting.withStartUp { booting.startUp with state := .image, pointer := 0x48, bytes := image.take 8 }).setMemSlot 0
    (.pending { kind := .read, address := 0x50, beats := 5, data := [], lanes := [] } .startUp 0 4)

theorem test_premises_BootReadsFetchPointerHeaderAndBody :
    let reading := booting.withStartUp { booting.startUp with state := .image, bytes := [] }
    (imaging.mem.slots[(0 : Fin 12)] = .pending { kind := .read, address := 0x50, beats := 5, data := [], lanes := [] }
          .startUp 0 4 ∧ (List.replicate 5 (0 : Beat)).length = 5 ∧ imaging.port.offered = [] ∧
        ∀ i : Fin 8, imaging.port.slots[i] = none) ∧
      booting.startUp.state = .pointer ∧
      (((0x44 : Beat).setWidth 32 : Address).toNat % 8 ≠ 0 ∧ ((0x48 : Beat).setWidth 32 : Address).toNat % 8 = 0) ∧
      (reading.startUp.state = .image ∧ reading.startUp.bytes = []) ∧
      (header.setWidth 32 = (0x32544645 : BitVec 32) ∧ header.extractLsb' 48 16 = 0 ∧
        (header.extractLsb' 32 8).toNat ≤ 16 ∧ (header.extractLsb' 40 8).toNat ≤ 4) ∧
      16 < ((0x0000001132544645 : Beat).extractLsb' 32 8).toNat ∧
      4 < ((0x0000050032544645 : Beat).extractLsb' 40 8).toNat ∧
      (imaging.startUp.bytes ≠ [] ∧ (image.take 8).length < imageLength (image.take 8) ∧
        imageLength image ≤ image.length) := by decide +kernel

theorem test_premises_BootImageIsTestedAndApplied :
    let wrong := image.take 8 ++ [4] ++ image.drop 9
    imageFailure image = none ∧ imageFailure (image.take 8) = some .checksum ∧
      (wordSum ((wrong.take 40 ++ bytesOf (0 - wordSum (wrong.take 40)).toNat 4).take 44) = 0 ∧ 3 < (wrong.getD 8 0).toNat) ∧
      ((image.getD 8 0).toNat = (3 : GroupId).val ∧ (image.getD 24 0).toNat = (15 : WindowId).val) ∧
      (let s := booting.applyImage image
       s.windows[(15 : WindowId)].enableAtBoot = true ∧ s.enableTest 15 = .accepted ∧ s.port.offered = [] ∧
         (∀ i : Fin 8, s.port.slots[i] = none) ∧ s.groups[s.windows[(15 : WindowId)].group].state ≠ .blocked ∧
         s.groups[(3 : GroupId)].trigger = some { window := 15, offset := 131071 }) ∧
      State.reset.windows[(0 : WindowId)].enableAtBoot = false := by decide +kernel

end Sys2Proof.Tests
end

section
/-! Proofs of the family of windows and banks: what the acceptance of a request that routing answers does, and from it the
writes that the foreign policies ERROR and DROP answer (R14, R15). -/

namespace Sys2Proof.Machine

/-! ## A request that is accepted at once (R97) -/

theorem exec_requestAcceptance (r : Request) (s : State) :
    exec (.requestAcceptance r) s = .next (s.quiet.offer r).acceptStanding := rfl

theorem State.freeSlot_of_takes {s : State} {i : Fin 8} (h : s.takes i) : s.freeSlot = some i := by
  obtain ⟨-, -, hfree, hlower⟩ := h
  refine (placesWhere_head_some _ _ i).2 ⟨by simpa using hfree, fun j hj => ?_⟩
  simpa using hlower j hj

/-- R97: the request offered on an open port with nothing else offered is the next one accepted. -/
theorem State.nextAccepted_offer {s : State} {i : Fin 8} (h : s.takes i) (r : Request) :
    (s.quiet.offer r).nextAccepted = some (i, r, []) := by
  have hfree : s.freeSlot = some i := State.freeSlot_of_takes h
  have hslot : (s.quiet.offer r).freeSlot = some i := hfree
  obtain ⟨hopen, hnone, -, -⟩ := h
  have hreset : (s.quiet.offer r).resetHeld = false := hopen
  have hoffered : (s.quiet.offer r).port.offered = [r] := by simp [hnone]
  simp only [State.nextAccepted, hreset, hoffered, hslot, Bool.false_eq_true, if_false]

/-- R97, R98: a request that finds the port open and a free slot meets the checks of acceptance in the accepted state. -/
theorem exec_requestAcceptance_of_takes {s : State} {i : Fin 8} (h : s.takes i) (r : Request) :
    exec (.requestAcceptance r) s = .next (s.accepted.checkRequest i r s.port.nextAcceptance) := by
  have ⟨_, hnone, _, _⟩ := h
  have hlength : (s.quiet.offer r).port.offered.length = 1 := by simp [hnone]
  have haccepted : ((s.quiet.offer r).withPort { (s.quiet.offer r).port with offered := [] }).accept i r =
      s.accepted.checkRequest i r s.port.nextAcceptance := by
    simp only [State.accept, State.accepted, State.offer, State.quiet, State.withPort, State.withMem, hnone]
  simp only [exec_requestAcceptance, State.acceptStanding, hlength, State.acceptUpTo, State.nextAccepted_offer h, haccepted]

/-! ## The checks of acceptance (R99) -/

@[simp] theorem State.accepted_lockTest (s : State) (r : Request) : s.accepted.lockTest r = s.lockTest r := rfl
@[simp] theorem State.accepted_routing (s : State) (r : Request) (n : Nat) :
    s.accepted.routing r n = s.routing r n := rfl
theorem State.accepted_passesPortChecks (s : State) (r : Request) :
    s.accepted.passesPortChecks r ↔ s.passesPortChecks r := Iff.rfl
theorem State.accepted_passesTwinTest (s : State) (r : Request) :
    s.accepted.passesTwinTest r ↔ s.passesTwinTest r := Iff.rfl

/-- R99: past checks 1 to 4 a request reaches the interlock check. -/
theorem State.checkRequest_of_passes {s : State} {r : Request} (hport : s.passesPortChecks r) (htwin : s.passesTwinTest r)
    (i : Fin 8) (n : Nat) : s.checkRequest i r n = s.interlockAndRoute i r n := by
  obtain ⟨hboot, hpair, haligned⟩ := hport
  unfold State.checkRequest
  rw [if_neg (by simp [hboot]), if_neg (by simp [hpair]), if_neg (by simp [haligned])]
  cases hplace : s.place r.address with
  | twin w => exact absurd hplace (htwin w)
  | home w => rfl
  | miss => rfl

theorem State.passesTwinTest_of_home {s : State} {r : Request} {w : WindowId} (h : s.place r.address = .home w) :
    s.passesTwinTest r := by
  intro v hv
  simp [h] at hv

/-- R98, R99: a request that passes checks 1 to 4 at its acceptance meets the interlock check and routing. -/
theorem exec_requestAcceptance_of_passes {s : State} {i : Fin 8} {r : Request} (htakes : s.takes i)
    (hport : s.passesPortChecks r) (htwin : s.passesTwinTest r) :
    exec (.requestAcceptance r) s = .next (s.accepted.interlockAndRoute i r s.port.nextAcceptance) := by
  rw [exec_requestAcceptance_of_takes htakes,
    State.checkRequest_of_passes ((s.accepted_passesPortChecks r).2 hport) ((s.accepted_passesTwinTest r).2 htwin)]

/-! ## The lock that an answered UNLOCK_WRITE claims (R121, R122) -/

theorem State.lockOn_some {s : State} {a : Address} {j : Fin 4} (h : s.lockOn a = some j) :
    ∃ l, s.locks[j] = some l ∧ l.line = lineOfAddress a := by
  have hj := ((placesWhere_head_some _ _ j).1 h).1
  cases hl : s.locks[j] with
  | none => simp [hl] at hj
  | some l => exact ⟨l, rfl, by simpa [hl] using hj⟩

/-- R121: an UNLOCK_WRITE claims an unclaimed entry that its master holds on its line. -/
theorem State.lockTest_claims {s : State} {r : Request} {j : Fin 4} {l : Lock} (h : s.lockTest r = .claims j l) :
    s.locks[j] = some l ∧ l.line = lineOfAddress r.address ∧ l.master = r.master ∧ r.kind = .unlockWrite ∧
      l.claim = none := by
  unfold State.lockTest at h
  cases hon : s.lockOn r.address with
  | none =>
    simp only [hon] at h
    cases hk : r.kind with
    | read | write | unlockWrite => simp [hk] at h
    | lockedRead =>
      simp only [hk] at h
      split at h <;> simp at h
  | some k =>
    obtain ⟨m, hm, hline⟩ := State.lockOn_some hon
    simp only [hon, hm] at h
    by_cases hmaster : m.master = r.master
    · rw [if_neg (not_not.2 hmaster)] at h
      cases hk : r.kind with
      | read | write | lockedRead => simp [hk] at h
      | unlockWrite =>
        simp only [hk] at h
        by_cases hclaim : m.claim = none
        · rw [if_pos hclaim] at h
          obtain ⟨rfl, rfl⟩ : k = j ∧ m = l := by simpa using h
          exact ⟨hm, hline, hmaster, rfl, hclaim⟩
        · simp [hclaim] at h
    · simp [hmaster] at h

/-- R122: the answer touches no lock but through an UNLOCK_WRITE. -/
theorem State.settleLock_of_ne {r : Request} (h : r.kind ≠ .unlockWrite) (s : State) (st : Status) :
    s.settleLock r st = s :=
  if_neg h

/-- Settling a lock changes the lock table only. -/
theorem State.settleLock_eq_withLocks (s : State) (r : Request) (st : Status) :
    s.settleLock r st = s.withLocks (s.settleLock r st).locks := by
  unfold State.settleLock
  split <;> rfl

/-- R116, R122: the answer to the UNLOCK_WRITE that has just claimed entry `j` settles that entry, and no other, because no
other entry is on its line. -/
theorem State.settleLock_of_claimed {s : State} {r : Request} {j : Fin 4} {l : Lock} (hdistinct : s.locksDistinct)
    (hclaims : s.lockTest r = .claims j l) (st : Status) :
    (s.setLock j (some { l with claim := some r.tag })).settleLock r st =
      s.setLock j (({ l with claim := some r.tag } : Lock).settled st) := by
  obtain ⟨hl, hline, hmaster, hkind, -⟩ := State.lockTest_claims hclaims
  rw [State.settleLock_eq_withLocks]
  refine congrArg s.withLocks (Vector.ext fun k hk => ?_)
  have hsettled := State.settleLock_lock (s.setLock j (some { l with claim := some r.tag })) r st ⟨k, hk⟩
  refine hsettled.trans ?_
  by_cases hjk : (j : Nat) = k
  · subst hjk
    have hclaim : ({ l with claim := some r.tag } : Lock).isClaimOf r := ⟨hkind, hmaster, hline, rfl⟩
    simp only [State.setLock_locks, Fin.getElem_fin, Vector.getElem_set_self, Lock.afterRequest]
    exact if_pos hclaim
  · simp only [State.setLock_locks, Fin.getElem_fin, Vector.getElem_set_ne _ _ hjk]
    cases hm : s.locks[k] with
    | none => rfl
    | some m =>
      refine if_neg fun hother : m.isClaimOf r => hjk ?_
      obtain ⟨-, -, hmline, -⟩ := hother
      exact congrArg Fin.val (hdistinct j ⟨k, hk⟩ l hl m hm (hline.trans hmline.symm))

/-! ## A request that routing answers (R104) -/

/-- A claim is made before the answer is given; the answer and its record do not look at it. -/
theorem State.setLock_recordAll_respond (s : State) (j : Fin 4) (e : Option Lock) (x : Option EventRecord) (r : Request)
    (st : Status) (data : List Beat) :
    ((s.setLock j e).recordAll x).respond r st data = ((s.recordAll x).respond r st data).setLock j e := by
  cases x <;> rfl

theorem State.lockTest_recordAll_respond (s : State) (x : Option EventRecord) (r q : Request) (st : Status)
    (data : List Beat) : ((s.recordAll x).respond r st data).lockTest q = s.lockTest q := by
  cases x <;> rfl

theorem State.locksDistinct_recordAll_respond (s : State) (x : Option EventRecord) (r : Request) (st : Status)
    (data : List Beat) : ((s.recordAll x).respond r st data).locksDistinct ↔ s.locksDistinct := by
  cases x <;> rfl

/-- R104: a request that is no UNLOCK_WRITE and that routing answers gives its record and its response, and leaves the rest
of the accepted state. -/
theorem exec_requestAcceptance_of_answer {s : State} {i : Fin 8} {r : Request} {st : Status} {x : Option EventRecord}
    (htakes : s.takes i) (hport : s.passesPortChecks r) (htwin : s.passesTwinTest r) (hlock : s.lockTest r = .routed)
    (hkind : r.kind ≠ .unlockWrite) (hroute : s.routing r s.port.nextAcceptance = .answer st x) :
    exec (.requestAcceptance r) s = .next ((s.accepted.recordAll x).respond r st []) := by
  rw [exec_requestAcceptance_of_passes htakes hport htwin]
  simp only [State.interlockAndRoute, State.accepted_lockTest, hlock, State.accepted_routing, hroute, State.finishRouting,
    State.answerNow, State.settleLock_of_ne hkind]

/-- R104, R122: a claiming UNLOCK_WRITE that routing answers gives its record and its response too, and its answer settles the
entry it has just claimed. -/
theorem exec_requestAcceptance_of_claimed_answer {s : State} {i : Fin 8} {r : Request} {j : Fin 4} {l : Lock} {st : Status}
    {x : Option EventRecord} (htakes : s.takes i) (hport : s.passesPortChecks r) (htwin : s.passesTwinTest r)
    (hdistinct : s.locksDistinct) (hclaims : s.lockTest r = .claims j l)
    (hroute : s.routing r s.port.nextAcceptance = .answer st x) :
    exec (.requestAcceptance r) s = .next (((s.accepted.recordAll x).respond r st []).setLock j
      (({ l with claim := some r.tag } : Lock).settled st)) := by
  have hlocks : ((s.accepted.recordAll x).respond r st []).locksDistinct :=
    (s.accepted.locksDistinct_recordAll_respond x r st []).2 hdistinct
  have htest : ((s.accepted.recordAll x).respond r st []).lockTest r = .claims j l := by
    rw [State.lockTest_recordAll_respond, State.accepted_lockTest, hclaims]
  rw [exec_requestAcceptance_of_passes htakes hport htwin]
  simp only [State.interlockAndRoute, State.accepted_lockTest, hclaims, State.accepted_routing, hroute, State.finishRouting,
    State.answerNow, State.setLock_recordAll_respond, State.settleLock_of_claimed hlocks htest]

/-! ## Consumer writes under the foreign policies (R14, R15) -/

/-- R10 to R16, R20: a SEEDING or ACTIVE window routes by role and kind. -/
theorem State.routeHome_of_servesTwo {s : State} {w : WindowId} (h : s.windows[w].state.servesTwo = true) (r : Request)
    (n : Nat) : s.routeHome r n w = s.routeTwoBanks r n w := by
  unfold State.routeHome
  cases hstate : s.windows[w].state with
  | seeding | active => rfl
  | disabled | suspended | homing | faulted => rw [hstate] at h; exact absurd h (by decide)

/-- R14, R15: routing answers a consumer write under ERROR and DROP, with a FOREIGN_WRITE record. -/
theorem State.routing_foreignWrite {s : State} {r : Request} {w : WindowId} {st : Status}
    (hplace : s.place r.address = .home w) (hstate : s.windows[w].state.servesTwo = true)
    (hrole : s.roleIn w r.master = .consumer) (hwrite : r.kind.isWrite = true)
    (hpolicy : s.windows[w].policy = .error ∧ st = .error ∨ s.windows[w].policy = .drop ∧ st = .okay) (n : Nat) :
    s.routing r n = .answer st (some (.foreignWrite r.master r.address w)) := by
  simp only [State.routing, hplace, State.routeHome_of_servesTwo hstate, State.routeTwoBanks, hrole, hwrite,
    State.routeConsumerWrite]
  obtain ⟨hp, rfl⟩ | ⟨hp, rfl⟩ := hpolicy <;> simp only [hp]

/-- R122: an answer other than RETRY frees the entry that was claimed. -/
theorem Lock.settled_of_ne_retry (l : Lock) {st : Status} (h : st ≠ .retry) : l.settled st = none :=
  if_neg h

/-- Settles O16: routing answers the write, and the two rules for an answered request say what the answer does. -/
theorem foreignWriteIsRefusedOrDropped : Obligations.ForeignWriteIsRefusedOrDropped := by
  intro s i r w st htakes hport hplace hstate hrole hpolicy
  have htwin : s.passesTwinTest r := State.passesTwinTest_of_home hplace
  have hroute (hwrite : r.kind.isWrite = true) :=
    State.routing_foreignWrite hplace hstate hrole hwrite hpolicy s.port.nextAcceptance
  refine ⟨fun hkind hlock => ?_, fun j l hkind hdistinct hclaims => ?_⟩
  · exact exec_requestAcceptance_of_answer htakes hport htwin hlock (by simp [hkind]) (hroute (by rw [hkind]; rfl))
  · have hst : st ≠ .retry := by
      obtain ⟨-, rfl⟩ | ⟨-, rfl⟩ := hpolicy <;> simp
    rw [exec_requestAcceptance_of_claimed_answer htakes hport htwin hdistinct hclaims (hroute (by rw [hkind]; rfl)),
      Lock.settled_of_ne_retry _ hst]
    rfl

end Sys2Proof.Machine
end

section
/-! Proofs of the family of line sets and the carry engine: what makes a line a candidate (R41), and the order in which the
candidates are taken (R42). -/

namespace Sys2Proof.Machine

/-! ## The first find of a search in a sorted list -/

/-- A search in a sorted list finds something at the least entry where there is something to find. -/
theorem findSome?_least {α β : Type} {r : α → α → Prop} {f : α → Option β} {l : List α} {b : β} (hsorted : l.Pairwise r)
    (h : l.findSome? f = some b) : ∃ a ∈ l, f a = some b ∧ ∀ c ∈ l, f c ≠ none → c = a ∨ r a c := by
  obtain ⟨before, a, rest, rfl, ha, hbefore⟩ := List.findSome?_eq_some_iff.1 h
  refine ⟨a, by simp, ha, fun c hc hfound => ?_⟩
  rcases List.mem_append.1 hc with hc | hc
  · exact absurd (hbefore c hc) hfound
  · rcases List.mem_cons.1 hc with rfl | hc
    · exact .inl rfl
    · exact .inr ((List.pairwise_cons.1 (List.pairwise_append.1 hsorted).2.1).1 c hc)

/-- The first entry of an ascending set that satisfies a test is the lowest one that does. -/
theorem LineSet.find?_least {l : LineSet} {p : Nat → Bool} {line : Nat} (hasc : LineSet.ascending l)
    (h : l.find? p = some line) : ∀ x ∈ l, p x = true → line ≤ x := by
  rw [List.find?_eq_findSome?_guard] at h
  obtain ⟨a, -, ha, hlow⟩ := findSome?_least hasc h
  obtain ⟨rfl, -⟩ := Option.guard_eq_some_iff.1 ha
  intro x hx hp
  rcases hlow x hx (by simp [Option.guard, hp]) with rfl | hlt
  · exact le_rfl
  · exact le_of_lt hlt

/-! ## Candidates (R41) -/

theorem WindowState.copies_iff (x : WindowState) : x.copies = true ↔ x = .seeding ∨ x = .active ∨ x = .homing := by
  cases x <;> simp [WindowState.copies]

/-- R41 condition 2 for one of the two physical copies. -/
theorem State.copyOn_eq_false (s : State) (a : Address) :
    s.copyOn a = false ↔ ∀ c : Fin 2, ∀ k, s.carry.copiers[c] = .busy k → a ≠ k.source ∧ a ≠ k.destination := by
  simp only [State.copyOn, List.any_eq_false, mem_places, true_implies]
  refine forall_congr' fun c => ?_
  cases s.carry.copiers[c] with
  | idle => simp
  | busy k => simp [eq_comm (a := a)]

/-- R41 condition 4. -/
theorem State.draining_eq_false (s : State) (w : WindowId) :
    s.draining w = false ↔ s.windows[w].liveReads s.windows[w].shadow = 0 := by
  simp [State.draining]

/-- The two physical copies of a line, live and shadow (R3, R41). -/
def Window.physicalCopies (x : Window) (line : Nat) : List Address :=
  [x.lineAddress x.live line, x.lineAddress x.shadow line]

theorem State.lineFree_iff (s : State) (w : WindowId) (line : Nat) :
    s.lineFree w line = true ↔
      (∀ a ∈ s.windows[w].physicalCopies line, s.copyOn a = false) ∧
        (∀ a ∈ s.windows[w].physicalCopies line, s.writeInFlightOn a = false) ∧ s.draining w = false := by
  simp only [State.lineFree, Window.physicalCopies, Bool.and_eq_true, Bool.not_eq_true', List.forall_mem_cons,
    List.not_mem_nil, false_implies, implies_true, and_true]
  tauto

/-- R41 condition 2 as the rule words it: no copy works on one of a list of physical lines. -/
theorem State.copyOn_eq_false_on (s : State) (l : List Address) :
    (∀ a ∈ l, s.copyOn a = false) ↔
      ∀ c : Fin 2, ∀ k, s.carry.copiers[c] = .busy k → k.source ∉ l ∧ k.destination ∉ l := by
  simp only [State.copyOn_eq_false]
  constructor
  · exact fun h c k hk => ⟨fun hm => (h _ hm c k hk).1 rfl, fun hm => (h _ hm c k hk).2 rfl⟩
  · intro h a ha c k hk
    obtain ⟨hsource, hdestination⟩ := h c k hk
    exact ⟨fun heq => hsource (heq ▸ ha), fun heq => hdestination (heq ▸ ha)⟩

theorem State.candidate_iff (s : State) (w : WindowId) (line : Nat) :
    s.candidate w line = true ↔
      s.windows[w].state.copies = true ∧ line ∈ s.windows[w].carry ∧ s.lineFree w line = true := by
  simp only [State.candidate, Bool.and_eq_true, List.contains_iff_mem, and_assoc]

theorem State.mem_carry_of_candidate {s : State} {w : WindowId} {line : Nat} (h : s.candidate w line = true) :
    line ∈ s.windows[w].carry := by
  obtain ⟨-, hcarry, -⟩ := (s.candidate_iff w line).1 h
  exact hcarry

/-- R41: the four conditions, spelled out. -/
theorem State.candidate_iff_conditions (s : State) (w : WindowId) (line : Nat) :
    let x := s.windows[w]
    let copies := x.physicalCopies line
    s.candidate w line = true ↔
      (x.state = .seeding ∨ x.state = .active ∨ x.state = .homing) ∧ line ∈ x.carry ∧
        (∀ c : Fin 2, ∀ k, s.carry.copiers[c] = .busy k → k.source ∉ copies ∧ k.destination ∉ copies) ∧
        (∀ a ∈ copies, s.writeInFlightOn a = false) ∧ x.liveReads x.shadow = 0 := by
  intro x copies
  rw [s.candidate_iff, WindowState.copies_iff, s.lineFree_iff, s.copyOn_eq_false_on, s.draining_eq_false]

/-- R42, R74, R89. -/
theorem State.urgent_iff (s : State) (w : WindowId) :
    s.urgent w = true ↔ s.groups[s.windows[w].group].state.isArmed = true ∧
      s.timing.sources[s.groups[s.windows[w].group].source].phase = .closed := by
  simp only [State.urgent, State.sourceClosed, Bool.and_eq_true, decide_eq_true_eq]

/-! ## The three steps of R42 -/

theorem State.demandCandidate_some {s : State} {w : WindowId} {line : Nat} :
    s.demandCandidate = some (w, line) ↔
      s.carry.demand.find? (fun d => s.candidate d.window d.line) = some { window := w, line := line } := by
  simp only [State.demandCandidate, Option.map_eq_some_iff, Prod.mk.injEq]
  constructor
  · rintro ⟨d, hd, rfl, rfl⟩
    exact hd
  · exact fun h => ⟨_, h, rfl, rfl⟩

theorem State.demandCandidate_none {s : State} :
    s.demandCandidate = none ↔ ∀ d ∈ s.carry.demand, s.candidate d.window d.line = false := by
  simp [State.demandCandidate]

theorem State.windowCandidate_none {s : State} {w : WindowId} :
    s.windowCandidate w = none ↔ ∀ line, s.candidate w line = false := by
  simp only [State.windowCandidate, Option.map_eq_none_iff, List.find?_eq_none, Bool.not_eq_true]
  refine ⟨fun h line => ?_, fun h line _ => h line⟩
  by_contra hc
  have hcandidate : s.candidate w line = true := by simpa using hc
  exact hc (h line (State.mem_carry_of_candidate hcandidate))

/-- R42: in one window the lowest candidate is found. -/
theorem State.windowCandidate_some {s : State} {v w : WindowId} {line : Nat} (hasc : LineSet.ascending s.windows[v].carry)
    (h : s.windowCandidate v = some (w, line)) :
    v = w ∧ s.candidate w line = true ∧ ∀ x, s.candidate w x = true → line ≤ x := by
  obtain ⟨found, hfind, heq⟩ := Option.map_eq_some_iff.1 h
  obtain ⟨rfl, rfl⟩ := Prod.mk.inj heq
  exact ⟨rfl, List.find?_some hfind,
    fun x hx => LineSet.find?_least hasc hfind x (State.mem_carry_of_candidate hx) hx⟩

theorem State.mem_urgencyClass {s : State} {u : Bool} {w : WindowId} :
    w ∈ (places 16).filter (fun v => s.urgent v == u) ↔ s.urgent w = u := by
  simp

theorem State.backgroundCandidate_none {s : State} {u : Bool} :
    s.backgroundCandidate u = none ↔ ∀ v x, s.urgent v = u → s.candidate v x = false := by
  simp only [State.backgroundCandidate, List.findSome?_eq_none_iff, State.mem_urgencyClass, State.windowCandidate_none]
  exact forall_congr' fun _ => forall_comm

/-- R42 steps 2 and 3: among the windows of one urgency the first candidate by window and line is found. -/
theorem State.backgroundCandidate_some {s : State} {u : Bool} {w : WindowId} {line : Nat} (hsets : s.setsAscending)
    (h : s.backgroundCandidate u = some (w, line)) :
    s.urgent w = u ∧ s.candidate w line = true ∧
      ∀ v x, s.urgent v = u → s.candidate v x = true → w < v ∨ w = v ∧ line ≤ x := by
  obtain ⟨w', hmem, hfound, hfirst⟩ := findSome?_least ((places_sorted 16).filter _) h
  obtain ⟨rfl, hcandidate, hlowest⟩ := State.windowCandidate_some (hsets w').2 hfound
  refine ⟨State.mem_urgencyClass.1 hmem, hcandidate, fun v x hv hx => ?_⟩
  have hsome : s.windowCandidate v ≠ none := fun hnone => by simp [State.windowCandidate_none.1 hnone x] at hx
  rcases hfirst v (State.mem_urgencyClass.2 hv) hsome with rfl | hlt
  · exact .inr ⟨rfl, hlowest x hx⟩
  · exact .inl hlt

/-! ## The order of the steps (R42) -/

/-- R42: a demand line, else an urgent line, else an ordinary one. -/
theorem State.firstCandidate_eq (s : State) :
    s.firstCandidate = (s.demandCandidate.map fun d => (d.1, d.2, CopyOrigin.demand)).or
      (((s.backgroundCandidate true).or (s.backgroundCandidate false)).map fun b => (b.1, b.2, .background)) := by
  unfold State.firstCandidate
  cases s.demandCandidate with
  | some d => rfl
  | none => cases s.backgroundCandidate true <;> rfl

/-- R42 step 1 comes first, and only it gives a demand copy. -/
theorem State.firstCandidate_demand {s : State} {w : WindowId} {line : Nat} :
    s.firstCandidate = some (w, line, .demand) ↔ s.demandCandidate = some (w, line) := by
  simp [State.firstCandidate_eq]

/-- R42: an urgent line is taken where no demand line is, and an ordinary line where neither is. -/
theorem State.firstCandidate_background {s : State} {w : WindowId} {line : Nat} :
    s.firstCandidate = some (w, line, .background) ↔ s.demandCandidate = none ∧
      (s.backgroundCandidate true = some (w, line) ∨
        s.backgroundCandidate true = none ∧ s.backgroundCandidate false = some (w, line)) := by
  simp [State.firstCandidate_eq]

theorem State.firstCandidate_none {s : State} :
    s.firstCandidate = none ↔
      s.demandCandidate = none ∧ s.backgroundCandidate true = none ∧ s.backgroundCandidate false = none := by
  simp [State.firstCandidate_eq]

/-- R42: nothing is taken exactly while no line is a candidate: every candidate is in a carry set, and every window is urgent
or not. -/
theorem State.firstCandidate_eq_none_iff {s : State} :
    s.firstCandidate = none ↔ ∀ v x, s.candidate v x = false := by
  rw [State.firstCandidate_none, State.demandCandidate_none, State.backgroundCandidate_none, State.backgroundCandidate_none]
  constructor
  · rintro ⟨-, hurgent, hordinary⟩ v x
    cases hv : s.urgent v with
    | true => exact hurgent v x hv
    | false => exact hordinary v x hv
  · exact fun h => ⟨fun d _ => h d.window d.line, fun v x _ => h v x, fun v x _ => h v x⟩

/-- R42: where a background line is taken, every candidate of a window of its urgency comes later by window and line, and no
candidate of an urgent window is passed over for it. -/
theorem State.firstCandidate_background_least {s : State} {w : WindowId} {line : Nat} (hsets : s.setsAscending)
    (h : s.firstCandidate = some (w, line, .background)) :
    s.candidate w line = true ∧ ∀ v x, s.candidate v x = true →
      (s.urgent v = true → s.urgent w = true) ∧ (s.urgent v = s.urgent w → w < v ∨ w = v ∧ line ≤ x) := by
  obtain ⟨-, hurgent | ⟨hnone, hordinary⟩⟩ := State.firstCandidate_background.1 h
  · obtain ⟨hw, hcandidate, hleast⟩ := State.backgroundCandidate_some hsets hurgent
    exact ⟨hcandidate, fun v x hx => ⟨fun _ => hw, fun hv => hleast v x (hv.trans hw) hx⟩⟩
  · obtain ⟨hw, hcandidate, hleast⟩ := State.backgroundCandidate_some hsets hordinary
    refine ⟨hcandidate, fun v x hx => ⟨fun hv => ?_, fun hv => hleast v x (hv.trans hw) hx⟩⟩
    rw [State.backgroundCandidate_none.1 hnone v x hv] at hx
    contradiction

/-- Settles O32: the four conditions, the steps of R42 in their order, and the lowest window and line within a step. -/
theorem candidatesAreTakenInOrder : Obligations.CandidatesAreTakenInOrder := by
  refine fun s => ⟨s.candidate_iff_conditions, s.urgent_iff, fun w line h => ?_, fun hsets w line h => ?_,
    State.firstCandidate_eq_none_iff⟩
  · exact State.demandCandidate_some.1 (State.firstCandidate_demand.1 h)
  · obtain ⟨hcandidate, horder⟩ := State.firstCandidate_background_least hsets h
    exact ⟨hcandidate, State.demandCandidate_none.1 (State.firstCandidate_background.1 h).1, horder⟩

end Sys2Proof.Machine
end

section
/-! Proofs of the family of publication groups: the flip gate (R69), one lemma for each notion it is made of. -/

namespace Sys2Proof.Machine

/-! ## The members that take part in a flip (R57) -/

theorem WindowState.takesPart_iff (x : WindowState) : x.takesPart = true ↔ x ≠ .disabled ∧ x ≠ .suspended := by
  cases x <;> simp [WindowState.takesPart]

theorem Window.partOf_iff (x : Window) (g : GroupId) :
    x.partOf g = true ↔ x.group = g ∧ x.state ≠ .disabled ∧ x.state ≠ .suspended := by
  simp only [Window.partOf, Window.memberOf, Bool.and_eq_true, decide_eq_true_eq, WindowState.takesPart_iff]

/-! ## The three conditions on a member (R69) -/

/-- R69 condition 3: no lock of a producer has its line in the home range. -/
theorem State.producerLocked_eq_false (s : State) (producers : BitVec 16) (x : Window) :
    s.producerLocked producers x = false ↔
      ∀ j : Fin 4, ∀ l ∈ s.locks[j], inProducers producers l.master = true → x.inHome l.line = false := by
  simp only [State.producerLocked, List.any_eq_false, mem_places, true_implies]
  refine forall_congr' fun j => ?_
  cases s.locks[j] with
  | none => simp
  | some l => simp

theorem State.memberReady_iff (s : State) (g : GroupId) (x : Window) :
    s.memberReady g x = true ↔
      x.state = .active ∧ x.carry = [] ∧ s.producerLocked s.groups[g].producers x = false := by
  simp only [State.memberReady, Bool.and_eq_true, decide_eq_true_eq, List.isEmpty_iff, Bool.not_eq_true', and_assoc]

/-! ## The gate -/

/-- R69, R73: the gate asks only the members that take part. -/
theorem State.gatePasses_iff (s : State) (g : GroupId) :
    s.gatePasses g = true ↔
      ∀ w : WindowId, s.windows[w].partOf g = true → s.memberReady g s.windows[w] = true := by
  simp only [State.gatePasses, List.all_eq_true, mem_places, true_implies, Bool.or_eq_true, Bool.not_eq_true',
    ← Bool.not_eq_true, ← imp_iff_not_or]

/-- Settles O36: the gate member by member, each member's part in the flip and its three conditions spelled out. -/
theorem flipGateTestsThreeConditions : Obligations.FlipGateTestsThreeConditions := by
  intro s g
  simp only [State.gatePasses_iff, Window.partOf_iff, State.memberReady_iff, State.producerLocked_eq_false, and_imp]

end Sys2Proof.Machine
end

section
/-! Proofs of the family of the memory port: what a response and the end of a fence do to a slot that no owner waits for
(R138, R140). -/

namespace Sys2Proof.Machine

/-! ## The rows of a slot that is FENCED or FREE -/

theorem exec_memResponse (k : Fin 12) (st : MemStatus) (data : List Beat) (s : State) :
    exec (.memResponse k st data) s = execMemResponse k st data s := rfl

theorem exec_fenceEnd (k : Fin 12) (s : State) : exec (.fenceEnd k) s = execFenceEnd k s := rfl

/-- R138: the fence takes the late response, whatever its status and data, and ends. -/
theorem exec_memResponse_of_fenced {s : State} {k : Fin 12} {n l : Nat} (hslot : s.mem.slots[k] = .fenced n l)
    (st : MemStatus) (data : List Beat) :
    exec (.memResponse k st data) s = .next (s.quiet.setMemSlot k .free) := by
  simp only [exec_memResponse, execMemResponse, State.quiet_mem_slots, hslot]

/-- R138: a response that names a FREE slot is for nobody. -/
theorem exec_memResponse_of_free {s : State} {k : Fin 12} (hslot : s.mem.slots[k] = .free) (st : MemStatus)
    (data : List Beat) : exec (.memResponse k st data) s = .next s.quiet := by
  simp only [exec_memResponse, execMemResponse, State.quiet_mem_slots, hslot]

/-- R140: the fence whose timer has reached its limit ends without a response. -/
theorem exec_fenceEnd_of_expired {s : State} {k : Fin 12} {n l : Nat} (hslot : s.mem.slots[k] = .fenced n l)
    (hlimit : l ≤ n) : exec (.fenceEnd k) s = .next (s.quiet.setMemSlot k .free) := by
  simp only [exec_fenceEnd, execFenceEnd, State.quiet_mem_slots, hslot, if_pos hlimit]

/-- Settles O25: a response by the state of the slot it names, and the end of a fence by its timer. -/
theorem fencedSlotsEndQuietly : Obligations.FencedSlotsEndQuietly := by
  intro s k st data
  refine ⟨fun n l hfenced => ?_, fun n l hfenced hlimit => ?_, fun hfree => ?_⟩
  · exact exec_memResponse_of_fenced hfenced st data
  · exact exec_fenceEnd_of_expired hfenced hlimit
  · exact exec_memResponse_of_free hfree st data

end Sys2Proof.Machine
end

section
/-! Proofs about one step of the part: which command it runs, that every command answers, what a step with an empty queue
takes, and what a tick of REFCLK counts. -/

namespace Sys2Proof.Machine

open Sys2Proof

/-! ## The step and the commands -/

theorem step_of_front (c : Instr) (rest : List Instr) (s : State) :
    step (s.withPending (c :: rest)) = exec c (s.withPending rest) := rfl

theorem step_of_empty {s : State} (h : s.pending = []) : step s = idleStep s := by
  unfold step
  rw [h]

/-- Settles O1: the queue's front is the command that `step` runs. -/
theorem stepRunsFrontCommand : Obligations.StepRunsFrontCommand :=
  step_of_front

/-- Settles O2: each row's meaning, branch by branch, answers a next state. -/
theorem everyCommandAnswersNext : Obligations.EveryCommandAnswersNext := by
  intro c s
  cases c with
  | memGrant => show ∃ t, execMemGrant s = .next t; unfold execMemGrant; dsimp only; split <;> exact ⟨_, rfl⟩
  | memResponse k st data =>
    show ∃ t, execMemResponse k st data s = .next t; unfold execMemResponse; dsimp only; split <;> exact ⟨_, rfl⟩
  | memTimeout k =>
    show ∃ t, execMemTimeout k s = .next t; unfold execMemTimeout; dsimp only; repeat' split
    all_goals exact ⟨_, rfl⟩
  | fenceEnd k =>
    show ∃ t, execFenceEnd k s = .next t; unfold execFenceEnd; dsimp only; repeat' split
    all_goals exact ⟨_, rfl⟩
  | copierTake => show ∃ t, execCopierTake s = .next t; unfold execCopierTake; dsimp only; split <;> exact ⟨_, rfl⟩
  | holdLimitExpiry i =>
    show ∃ t, execHoldLimitExpiry i s = .next t; unfold execHoldLimitExpiry; dsimp only; repeat' split
    all_goals exact ⟨_, rfl⟩
  | lockLimitExpiry j =>
    show ∃ t, execLockLimitExpiry j s = .next t; unfold execLockLimitExpiry; dsimp only; repeat' split
    all_goals exact ⟨_, rfl⟩
  | closeTimerExpiry e =>
    show ∃ t, execCloseTimerExpiry e s = .next t; unfold execCloseTimerExpiry; dsimp only; split <;> exact ⟨_, rfl⟩
  | syncRisingEdge i level =>
    show ∃ t, execSyncRisingEdge i level s = .next t; unfold execSyncRisingEdge; dsimp only; split <;> exact ⟨_, rfl⟩
  | frameOpen =>
    show ∃ t, execFrameOpen s = .next t; unfold execFrameOpen; dsimp only; repeat' split
    all_goals exact ⟨_, rfl⟩
  | frameEnd => show ∃ t, execFrameEnd s = .next t; unfold execFrameEnd; dsimp only; split <;> exact ⟨_, rfl⟩
  | identifierByte b =>
    show ∃ t, execIdentifierByte b s = .next t; unfold execIdentifierByte; dsimp only; split <;> exact ⟨_, rfl⟩
  | indexBytes hi lo =>
    show ∃ t, execIndexBytes hi lo s = .next t; unfold execIndexBytes; dsimp only; split <;> exact ⟨_, rfl⟩
  | headRecordRemoval =>
    show ∃ t, execHeadRecordRemoval s = .next t; unfold execHeadRecordRemoval; dsimp only; split <;> exact ⟨_, rfl⟩
  | pwrupNFall => show ∃ t, execPwrupNFall s = .next t; unfold execPwrupNFall; dsimp only; split <;> exact ⟨_, rfl⟩
  | pwrupNRelease boot =>
    show ∃ t, execPwrupNRelease boot s = .next t; unfold execPwrupNRelease; dsimp only; repeat' split
    all_goals exact ⟨_, rfl⟩
  | rstNFall =>
    show ∃ t, execRstNFall s = .next t; unfold execRstNFall; dsimp only; repeat' split
    all_goals exact ⟨_, rfl⟩
  | rstNRelease =>
    show ∃ t, execRstNRelease s = .next t; unfold execRstNRelease; dsimp only; repeat' split
    all_goals exact ⟨_, rfl⟩
  | commandCodeNamingNoCommand code =>
    show ∃ t, execCommandCodeNamingNoCommand code s = .next t; unfold execCommandCodeNamingNoCommand
    split <;> exact ⟨_, rfl⟩
  | requestAcceptance _ | enable | disable | suspend | publish | rollback | boundary | softReset | fieldWrite _
  | windowConfigWrite _ | groupConfigWrite _ | holdWrite _ | closeDelayWrite _ | limitWrite _ | eventMaskWrite _
  | overrunFlagClear | writeRefusedFlagClear => exact ⟨_, rfl⟩

/-! ## A step with an empty queue (log 3, log 5) -/

theorem idleStep_of_standing {s : State} (h : s.nextAccepted ≠ none) : idleStep s = .next s.quiet.acceptStanding := by
  unfold idleStep
  cases hn : s.nextAccepted with
  | none => exact absurd hn h
  | some _ => rfl

theorem idleStep_of_due {s : State} {c : Instr} (h : s.nextAccepted = none) (hd : s.dueEvent = some c) :
    idleStep s = exec c s := by
  unfold idleStep
  rw [h, hd]

theorem idleStep_of_edge {s t : State} (h : s.nextAccepted = none) (hd : s.dueEvent = none) (he : s.nextEdge = some t) :
    idleStep s = .next t := by
  unfold idleStep
  rw [h, hd, he]

theorem idleStep_of_tick {s : State} (h : s.nextAccepted = none) (hd : s.dueEvent = none) (he : s.nextEdge = none) :
    idleStep s = .next s.tick := by
  unfold idleStep
  rw [h, hd, he]

/-- Settles O3: the four branches of an idle step, by what stands offered and by the first event that is due. -/
theorem idleStepTakesOwnEventOrTick : Obligations.IdleStepTakesOwnEventOrTick := by
  intro s hpending standing
  have hnone (h : ¬ standing) : s.nextAccepted = none := s.nextAccepted_none.2 h
  rw [step_of_empty hpending]
  refine ⟨fun h => ?_, fun h c hc => ?_, fun h hd t ht => ?_, fun h hd he => ?_⟩
  · exact idleStep_of_standing fun hn => s.nextAccepted_none.1 hn h
  · exact idleStep_of_due (hnone h) ((s.dueEvent_some c).2 hc)
  · exact idleStep_of_edge (hnone h) (s.dueEvent_none.2 hd) ht
  · exact idleStep_of_tick (hnone h) (s.dueEvent_none.2 hd) he

/-! ## The tick of REFCLK (log 4) -/

theorem State.tick_of_pwrupLow {s : State} (h : s.pins.pwrupLow = true) : s.tick = s.quiet := by
  simp [State.tick, h]

theorem State.tick_of_rstLow {s : State} (hp : s.pins.pwrupLow = false) (hr : s.pins.rstLow = true) :
    s.tick = s.quiet.tickMemory := by
  simp [State.tick, hp, hr]

theorem State.resetHeld_eq_false (s : State) :
    s.resetHeld = false ↔ s.pins.pwrupLow = false ∧ s.pins.rstLow = false := by
  simp [State.resetHeld]

theorem State.tick_of_open {s : State} (h : s.resetHeld = false) : s.tick = s.quiet.tickMemory.tickOthers := by
  obtain ⟨hp, hr⟩ := s.resetHeld_eq_false.1 h
  simp [State.tick, hp, hr]

theorem State.tickMemory_slot (s : State) (k : Fin 12) : s.tickMemory.mem.slots[k] = s.mem.slots[k].tick := by
  simp [State.tickMemory]

/-- What the tick of an open part leaves of each table. -/
theorem State.tick_tables {s : State} (h : s.resetHeld = false) :
    (∀ k : Fin 12, s.tick.mem.slots[k] = s.mem.slots[k].tick) ∧
    (∀ i : Fin 8, s.tick.port.slots[i] = s.port.slots[i].map Transfer.tick) ∧
    (∀ j : Fin 4, s.tick.locks[j] = s.locks[j].map Lock.tick) ∧
    ∀ e : SourceId, s.tick.timing.sources[e] =
      { s.timing.sources[e] with closeTimer := s.timing.sources[e].closeTimer.tick } := by
  rw [State.tick_of_open h]
  simp [State.tickOthers, State.tickMemory]

theorem Transfer.tick_waiting {t : Transfer} {h : HoldCount} (hp : t.phase = .waiting) (hh : t.hold = some h) :
    t.tick = { t with hold := some { h with count := min (h.count + 1) h.limit } } := by
  simp [Transfer.tick, hp, hh]

theorem Transfer.tick_of_ne {t : Transfer} (hp : t.phase ≠ .waiting) : t.tick = t := by
  unfold Transfer.tick
  split
  · exact absurd ‹_› hp
  · rfl

/-- Settles O4: the tick of a held and of an open part, timer by timer. -/
theorem tickCountsEveryTimer : Obligations.TickCountsEveryTimer := by
  refine ⟨fun s h => State.tick_of_pwrupLow h, fun s hp hr => ?_, fun s h => ?_⟩
  · rw [State.tick_of_rstLow hp hr]
    refine ⟨rfl, fun k n l hk => ?_, fun k hk => ?_⟩ <;>
      rw [State.tickMemory_slot, State.quiet_mem_slots, hk] <;> rfl
  · obtain ⟨hmem, hslots, hlocks, hsources⟩ := State.tick_tables h
    refine ⟨fun k hk => ?_, fun k q o n l hk => ?_, fun k n l hk => ?_, fun i t x ht hx hw => ?_, fun i t ht hw => ?_,
      fun j l hl => ?_, fun e n he hn => ?_, fun e n he hn => ?_, ?_⟩
    · rw [hmem, hk]; rfl
    · rw [hmem, hk]; rfl
    · rw [hmem, hk]; rfl
    · rw [hslots, ht, Option.map_some, Transfer.tick_waiting hw hx]
    · rw [hslots, ht, Option.map_some, Transfer.tick_of_ne hw]
    · rw [hlocks, hl]; rfl
    · rw [hsources, he, CloseTimer.tick, if_neg (by omega)]
    · rw [hsources, he, CloseTimer.tick, if_pos hn]
    · rw [State.tick_of_open h]
      exact ⟨rfl, rfl, rfl, rfl, rfl, rfl, rfl, rfl⟩

end Sys2Proof.Machine
end

section
/-! Proofs about power-on, the reset lines and the releases (R172, R173, R179), and the event queue (R147, R148). -/

namespace Sys2Proof.Machine

open Sys2Proof

/-! ## Power-on (R172) -/

/-- What each table holds at power-on. -/
theorem State.reset_tables :
    (∀ w : WindowId, State.reset.windows[w] = Window.powerOn) ∧ (∀ g : GroupId, State.reset.groups[g] = Group.powerOn) ∧
    (∀ i : Fin 8, State.reset.port.slots[i] = none) ∧ (∀ j : Fin 4, State.reset.locks[j] = none) ∧
    ∀ c : Fin 2, State.reset.carry.copiers[c] = .idle := by
  simp [State.reset, SystemPort.powerOn, CarryEngine.powerOn, -Fin.forall_fin_two]

theorem Window.powerOn_consistent : Window.powerOn.consistent := by decide

/-- R30, R55, R82, R92, R114, R129, R144, R155, R171: the power-on values keep the promises of `State.Inv`. -/
theorem State.reset_inv : State.reset.Inv := by
  obtain ⟨hwindows, hgroups, hslots, -, hcopiers⟩ := State.reset_tables
  have hcopies : ∀ c : Fin 2, ∀ k, k ∉ State.reset.carry.copiers[c].record? := by
    intro c k
    rw [hcopiers]
    simp [Copier.record?]
  refine ⟨fun w => ?_, fun g => ?_, fun i t ht => ?_, fun i t ht => ?_, fun i t ht => ?_, .inr (.inl rfl),
    fun c k hk => absurd hk (hcopies c k), fun c d _ k hk => absurd hk (hcopies c k),
    ⟨fun h => absurd h (by decide), fun h => absurd h (by decide)⟩, fun h => absurd h (by decide)⟩
  · rw [hwindows]; exact Window.powerOn_consistent
  · rw [hgroups]
    simp [Group.powerOn, State.memberFaulted, -Fin.getElem_fin, hwindows, Window.powerOn]
  · rw [hslots] at ht; cases ht
  · rw [hslots] at ht; cases ht
  · rw [hslots] at ht; cases ht

/-- R34: no transfer is counted at power-on. -/
theorem State.reset_countsExact : State.reset.countsExact := by
  obtain ⟨hwindows, -, hslots, -, -⟩ := State.reset_tables
  intro w b
  rw [hwindows]
  simp only [State.countedReads, hslots]
  cases b <;> simp [Window.powerOn, Window.liveReads]

/-- Settles O5: the promises of `State.Inv` and the bounds of the tables, at power-on. -/
theorem resetStateHasEveryInvariant : Obligations.ResetStateHasEveryInvariant := by
  obtain ⟨hwindows, -, hslots, hlocks, hcopiers⟩ := State.reset_tables
  refine ⟨State.reset_inv, State.reset_countsExact, fun c k hk => ?_, by decide, fun i j a ha => ?_, by decide, by decide,
    by decide, fun i t ht => ?_, fun w => ?_,
    ⟨by decide, fun _ => rfl, fun h => absurd h (by decide), fun h => absurd h (by decide)⟩⟩
  · rw [hcopiers] at hk; cases hk
  · rw [hlocks] at ha; cases ha
  · rw [hslots] at ht; cases ht
  · rw [hwindows]; decide

/-- Settles O56: the state of a part whose PWRUP_N falls. -/
theorem powerOnFallRestoresPowerOnValues : Obligations.PowerOnFallRestoresPowerOnValues := by
  intro s h
  refine ⟨s.quiet.poweredOn, ?_, rfl, rfl, rfl, rfl, rfl, rfl, rfl, rfl, rfl, rfl, rfl, rfl⟩
  show execPwrupNFall s = _
  simp [execPwrupNFall, h]

/-! ## The fall of RST_N (R172) -/

theorem exec_rstNFall (s : State) : exec .rstNFall s = execRstNFall s := rfl

theorem WindowState.afterReset_eq (x : WindowState) :
    x.afterReset = if x = .disabled then WindowState.disabled else .suspended := by
  cases x <;> rfl

/-- R30, R55: a window after RST_N or SOFT_RESET, field by field. -/
theorem Window.afterReset_eq (x : Window) : x.afterReset = { x with
    state := (if x.state = .disabled then WindowState.disabled else WindowState.suspended)
    faultAddress := none
    dirty := []
    carry := []
    liveReads0 := 0
    liveReads1 := 0 } := by
  rw [Window.afterReset, WindowState.afterReset_eq]

/-- What RST_N and SOFT_RESET leave of each table. -/
theorem State.resetBlocks_tables (s : State) :
    (∀ w : WindowId, s.resetBlocks.windows[w] = s.windows[w].afterReset) ∧
    (∀ g : GroupId, s.resetBlocks.groups[g] = s.groups[g].afterReset) ∧
    (∀ i : Fin 8, s.resetBlocks.port.slots[i] = none) ∧
    (∀ j : Fin 4, s.resetBlocks.locks[j] = none) ∧
    (∀ c : Fin 2, s.resetBlocks.carry.copiers[c] = .idle) ∧
    ∀ k : Fin 12, s.resetBlocks.mem.slots[k] = s.mem.slots[k].afterReset s.link.memoryLimit.toNat := by
  simp [State.resetBlocks, CarryEngine.powerOn, -Fin.forall_fin_two]

theorem MemSlot.afterReset_eq (l : Nat) (x : MemSlot) : x.afterReset l = match x with
    | .free => .free
    | .pending _ _ _ _ => .fenced 0 l
    | .fenced n m => .fenced n m := by
  cases x <;> rfl

/-- Settles O57: the fall with PWRUP_N low moves only the line; with it high every block takes its line reset. -/
theorem lineResetFallTakesEveryBlock : Obligations.LineResetFallTakesEveryBlock := by
  intro s hline
  refine ⟨fun hpower => ?_, fun hpower => ?_⟩
  · simp [exec_rstNFall, execRstNFall, hline, hpower, State.withPins]
  · let q := s.quiet.withPins { s.pins with rstLow := true }
    obtain ⟨hwindows, hgroups, hslots, hlocks, hcopiers, hmem⟩ := q.resetBlocks_tables
    refine ⟨q.lineResetTaken, ?_, rfl, fun w => ?_, fun g => ?_, fun e => ?_, fun i => ?_, hslots, rfl, rfl, hlocks,
      rfl, hcopiers, fun k => ?_, rfl, rfl, rfl, rfl, rfl, rfl⟩
    · simp [exec_rstNFall, execRstNFall, hline, hpower, q]
    · exact (hwindows w).trans (Window.afterReset_eq _)
    · exact hgroups g
    · show (mapTable (fun _ r => r.afterLineReset) q.timing.sources)[e] = _
      rw [mapTable_getElem_fin]; rfl
    · exact ⟨by simp [q, State.lineResetTaken, EpochTiming.afterLineReset],
        by simp [q, State.lineResetTaken, EpochTiming.afterLineReset]⟩
    · exact (hmem k).trans (MemSlot.afterReset_eq _ _)

/-! ## The releases (R172, R173, R179) -/

theorem exec_pwrupNRelease (boot : Bool) (s : State) : exec (.pwrupNRelease boot) s = execPwrupNRelease boot s := rfl

theorem exec_rstNRelease (s : State) : exec .rstNRelease s = execRstNRelease s := rfl

/-- R173: what the release of RST_N does of the boot load, by the boot state. -/
theorem State.lineReleased_eq (s : State) :
    (s.startUp.state = .none ∨ s.startUp.state = .ended → s.lineReleased = s.record (.reset .line)) ∧
    (s.startUp.state = .pending → s.lineReleased = (s.record (.reset .line)).bootStart) ∧
    (s.startUp.state = .pointer ∨ s.startUp.state = .image →
      s.lineReleased = (s.record (.reset .line)).bootFail .memory) := by
  have hstate : (s.record (.reset .line)).startUp.state = s.startUp.state := rfl
  unfold State.lineReleased
  dsimp only
  rw [hstate]
  refine ⟨?_, fun h => ?_, ?_⟩
  · rintro (h | h) <;> rw [h]
  · rw [h]
  · rintro (h | h) <;> rw [h]

@[simp] theorem State.lineReleased_offered (s : State) : s.lineReleased.port.offered = s.port.offered := by
  unfold State.lineReleased
  dsimp only
  split <;> simp [State.bootStart]

/-- Settles O58: each release by the levels of the two lines and the boot state. -/
theorem releasesRecordAndStartOrEndBootLoad : Obligations.ReleasesRecordAndStartOrEndBootLoad := by
  intro s hoffered bootRead begun up released
  refine ⟨fun hpower => ⟨?_, fun hline => ?_, fun hline => ?_⟩, fun hline hpower => ?_, fun hline hpower => ?_⟩
  · simp [exec_pwrupNRelease, execPwrupNRelease, hpower, hoffered, up]
  · simp [exec_pwrupNRelease, execPwrupNRelease, hpower, hoffered, hline, up, State.bootStart, StartUp.presenting,
      Config.bootPointerAddress, begun, bootRead]
  · simp [exec_pwrupNRelease, execPwrupNRelease, hpower, hline, up]
  · simp [exec_rstNRelease, execRstNRelease, hpower, hline]
  · have hexec : exec .rstNRelease s = .next (s.quiet.withPins { s.pins with rstLow := false }).lineReleased := by
      simp [exec_rstNRelease, execRstNRelease, hpower, hline, hoffered]
    obtain ⟨hnone, hpending, hload⟩ := (s.quiet.withPins { s.pins with rstLow := false }).lineReleased_eq
    refine ⟨fun h => ?_, fun h => ?_, fun h => ?_⟩
    · rw [hexec, hnone h]
    · rw [hexec, hpending h]; rfl
    · rw [hexec, hload h]; rfl

/-! ## The event queue (R147, R148, R154) -/

theorem irqCondition_append (mask : BitVec 32) (records : List EventRecord) (r : EventRecord) :
    irqCondition mask (records ++ [r]) = (irqCondition mask records || mask.getLsbD r.kind) := by
  simp [irqCondition, enabledBy]

/-- Settles O55: the two branches of an append, with IRQ_N at its condition before it. -/
theorem recordsJoinTailOrAreDiscarded : Obligations.RecordsJoinTailOrAreDiscarded := by
  intro s r hconsistent
  obtain ⟨-, -, hirq⟩ := hconsistent
  have hrecord : s.record r = { s with events := s.events.append r } := rfl
  refine ⟨fun h => ?_, fun h => ?_⟩
  · rw [hrecord, EventQueue.append, if_pos (by simpa [Config.eventCapacity] using h), irqCondition_append, hirq]
  · rw [hrecord, EventQueue.append, if_neg (by simpa [Config.eventCapacity] using h)]

end Sys2Proof.Machine
end

section
/-! Proofs about the management commands (R164 to R166): the checks that every command passes first, and what PUBLISH and the
refused commands do (R63, R165, R23). -/

namespace Sys2Proof.Machine

open Sys2Proof

/-! ## Numbers that name a window, a group or a source -/

theorem windowOf_val {n : Nat} {w : WindowId} (h : n = w.val) : windowOf n = some w := by
  subst h
  simp [windowOf]

theorem windowOf_of_ge {n : Nat} (h : 16 ≤ n) : windowOf n = none :=
  dif_neg (by omega)

theorem groupOf_val {n : Nat} {g : GroupId} (h : n = g.val) : groupOf n = some g := by
  subst h
  simp [groupOf]

theorem groupOf_of_ge {n : Nat} (h : 4 ≤ n) : groupOf n = none :=
  dif_neg (by omega)

theorem sourceOf_val {n : Nat} {e : SourceId} (h : n = e.val) : sourceOf n = some e := by
  subst h
  simp [sourceOf]

theorem sourceOf_of_ge {n : Nat} (h : 3 ≤ n) : sourceOf n = none :=
  dif_neg (by omega)

/-! ## The rows of the commands -/

theorem exec_enable (s : State) : exec .enable s = .next (s.quiet.command 0x01 State.enableNamed) := rfl
theorem exec_disable (s : State) : exec .disable s = .next (s.quiet.command 0x02 State.disableNamed) := rfl
theorem exec_suspend (s : State) : exec .suspend s = .next (s.quiet.command 0x03 State.suspendNamed) := rfl
theorem exec_publish (s : State) : exec .publish s = .next (s.quiet.command 0x04 State.publishNamed) := rfl
theorem exec_rollback (s : State) : exec .rollback s = .next (s.quiet.command 0x05 State.rollbackNamed) := rfl
theorem exec_boundary (s : State) : exec .boundary s = .next (s.quiet.command 0x06 State.boundaryByCommand) := rfl
theorem exec_softReset (s : State) : exec .softReset s = .next (s.quiet.command 0x07 State.softResetByCommand) := rfl

theorem exec_noCommand {code : Byte} (h : namesCommand code = false) (s : State) :
    exec (.commandCodeNamingNoCommand code) s = .next (s.quiet.command code State.noCommand) := by
  show execCommandCodeNamingNoCommand code s = _
  unfold execCommandCodeNamingNoCommand
  rw [if_neg (by simp [h])]

/-! ## The tests before a command's owner (R164, R165) -/

/-- The state in which a command's owner finds the part: the outputs cleared, the code held, the index advanced. -/
def State.taking (s : State) (code : Byte) : State := s.quiet.takeCode code

theorem State.taking_link (s : State) (code : Byte) :
    (s.taking code).link = { s.link with code := code, frame := .write 0x0002 } := rfl

theorem State.command_eq {s : State} (hframe : s.byteFrame = .write 0x0001) (code : Byte)
    (body : State → CommandResult × State) :
    s.quiet.command code body = if s.bootInProgress then (s.taking code).withResult .refusedBoot
      else (body (s.taking code)).2.withResult (body (s.taking code)).1 := by
  have hq : s.quiet.byteFrame = .write 0x0001 := hframe
  unfold State.command
  rw [if_pos hq]
  rfl

/-- R165 test 1. -/
theorem State.command_of_boot {s : State} (hframe : s.byteFrame = .write 0x0001) (hboot : s.bootInProgress = true)
    (code : Byte) (body : State → CommandResult × State) :
    s.quiet.command code body = s.commandDone code .refusedBoot := by
  rw [State.command_eq hframe, if_pos hboot]
  rfl

/-- R164: outside the boot load the owner gives the result and the state after the command. -/
theorem State.command_of_takes {s : State} (h : s.takesCommand) (code : Byte) (body : State → CommandResult × State) :
    s.quiet.command code body = (body (s.taking code)).2.withResult (body (s.taking code)).1 := by
  obtain ⟨hframe, hboot⟩ := h
  rw [State.command_eq hframe, if_neg (by simp [hboot])]

/-- R166: an owner that gives a result and changes nothing. -/
theorem State.command_of_unchanged {s : State} (h : s.takesCommand) {code : Byte} {body : State → CommandResult × State}
    {result : CommandResult} (hbody : body (s.taking code) = (result, s.taking code)) :
    s.quiet.command code body = s.commandDone code result := by
  rw [State.command_of_takes h, hbody]
  rfl

/-- R23 test 2. -/
theorem State.onWindow_val {s : State} {w : WindowId} (h : s.link.argument.toNat = w.val) (code : Byte)
    (body : WindowId → CommandResult × State) : (s.taking code).onWindow body = body w := by
  have ha : (s.taking code).link.argument = s.link.argument := rfl
  unfold State.onWindow
  rw [ha, windowOf_val h]

theorem State.onWindow_of_ge {s : State} (h : 16 ≤ s.link.argument.toNat) (code : Byte)
    (body : WindowId → CommandResult × State) :
    (s.taking code).onWindow body = (.refusedArgument, s.taking code) := by
  have ha : (s.taking code).link.argument = s.link.argument := rfl
  unfold State.onWindow
  rw [ha, windowOf_of_ge h]

/-- R63 test 2, R78 test 2. -/
theorem State.onGroup_val {s : State} {g : GroupId} (h : s.link.argument.toNat = g.val) (code : Byte)
    (body : GroupId → CommandResult × State) : (s.taking code).onGroup body = body g := by
  have ha : (s.taking code).link.argument = s.link.argument := rfl
  unfold State.onGroup
  rw [ha, groupOf_val h]

theorem State.onGroup_of_ge {s : State} (h : 4 ≤ s.link.argument.toNat) (code : Byte)
    (body : GroupId → CommandResult × State) :
    (s.taking code).onGroup body = (.refusedArgument, s.taking code) := by
  have ha : (s.taking code).link.argument = s.link.argument := rfl
  unfold State.onGroup
  rw [ha, groupOf_of_ge h]

/-! ## PUBLISH (R63) -/

/-- R60, R63: the arming request of PUBLISH by the state of the group. -/
theorem State.publishGroup_eq (s : State) (g : GroupId) :
    (s.groups[g].state = .opened → s.publishGroup g =
      (.accepted, s.setGroup g { s.groups[g] with state := .armed s.groups[g].lag (s.sourceClosed g) })) ∧
    (s.groups[g].state.isArmed = true → s.publishGroup g = (.accepted, s)) ∧
    (s.groups[g].state = .blocked → s.publishGroup g = (.refusedState, s.record (.armRefused g none))) := by
  unfold State.publishGroup State.arm
  refine ⟨fun h => by simp only [h], fun h => ?_, fun h => by simp only [h]⟩
  cases hs : s.groups[g].state with
  | armed n late => simp only
  | opened | blocked => rw [hs] at h; exact absurd h (by decide)

/-- Settles O42: the three group states that PUBLISH can find. -/
theorem publishArmsItsGroup : Obligations.PublishArmsItsGroup := by
  intro s g htakes hargument
  have hbody : (s.taking 0x04).publishNamed = (s.taking 0x04).publishGroup g := State.onGroup_val hargument 0x04 _
  obtain ⟨hopened, harmed, hblocked⟩ := (s.taking 0x04).publishGroup_eq g
  refine ⟨fun h => ?_, fun h => ?_, fun h => ?_⟩
  · rw [exec_publish, State.command_of_takes htakes, hbody, hopened h]; rfl
  · rw [exec_publish, State.command_of_unchanged htakes (hbody.trans (harmed h))]
  · rw [exec_publish, State.command_of_takes htakes, hbody, hblocked h]; rfl

/-! ## Refused commands (R165, R23) -/

theorem namesCommand_eq_false (code : Byte) : namesCommand code = false ↔ code = 0 ∨ 8 ≤ code.toNat := by
  unfold namesCommand
  rw [Bool.and_eq_false_iff, decide_eq_false_iff_not, decide_eq_false_iff_not]
  bv_omega

/-- R23 tests 4 and 5 as the rule words them. -/
theorem Window.valuesValid_iff (x : Window) : (x.sizeCodeValid = true ∧ x.basesAligned = true) ↔
    ¬ (x.sizeCode.toNat < 12 ∨ 20 < x.sizeCode.toNat ∨ ¬ 2 ^ x.sizeCode.toNat ∣ x.base.toNat ∨
      ¬ 2 ^ x.sizeCode.toNat ∣ x.twin.toNat) := by
  have hbases : x.basesAligned = true ↔ 2 ^ x.sizeCode.toNat ∣ x.base.toNat ∧ 2 ^ x.sizeCode.toNat ∣ x.twin.toNat := by
    simp only [Window.basesAligned, Bool.and_eq_true, decide_eq_true_eq, Nat.dvd_iff_mod_eq_zero]
    rfl
  simp [Window.sizeCodeValid, hbases, and_assoc]

/-- R23 test 7, failing. -/
theorem State.overlapsOther_iff (s : State) (w : WindowId) : s.overlapsOther w = true ↔
    ∃ v : WindowId, v ≠ w ∧ s.windows[v].state ≠ .disabled ∧ s.windows[w].overlaps s.windows[v] = true := by
  simp only [State.overlapsOther, List.any_eq_true, mem_places, true_and, Bool.and_eq_true, decide_eq_true_eq, and_assoc]

/-- R23: tests 3 to 7 in their order. -/
theorem State.enableTest_eq (s : State) (w : WindowId) :
    let x := s.windows[w]
    let stateFails := x.state = .seeding ∨ x.state = .active ∨ x.state = .homing
    let valueFails := x.sizeCode.toNat < 12 ∨ 20 < x.sizeCode.toNat ∨ ¬ 2 ^ x.sizeCode.toNat ∣ x.base.toNat ∨
      ¬ 2 ^ x.sizeCode.toNat ∣ x.twin.toNat
    let overlapFails := x.selfOverlap = true ∨
      ∃ v : WindowId, v ≠ w ∧ s.windows[v].state ≠ .disabled ∧ x.overlaps s.windows[v] = true
    (stateFails → s.enableTest w = .refusedState) ∧
    (¬ stateFails → valueFails → s.enableTest w = .refusedArgument) ∧
    (¬ stateFails → ¬ valueFails → overlapFails → s.enableTest w = .refusedOverlap) := by
  intro x stateFails valueFails overlapFails
  have hstate : (decide (x.state = .seeding) || decide (x.state = .active) || decide (x.state = .homing)) = true ↔
      stateFails := by simp [stateFails, or_assoc]
  have hvalue : (x.sizeCodeValid = true ∧ x.basesAligned = true) ↔ ¬ valueFails := x.valuesValid_iff
  have hoverlap : (x.selfOverlap = true ∨ s.overlapsOther w = true) ↔ overlapFails := by
    rw [s.overlapsOther_iff w]
  have fails {b : Bool} (h : b = true) : ¬ (!b) = true := by simp [h]
  unfold State.enableTest
  refine ⟨fun h => ?_, fun h hv => ?_, fun h hv ho => ?_⟩
  · exact if_pos (hstate.2 h)
  · refine (if_neg (mt hstate.1 h)).trans ?_
    by_cases hsize : x.sizeCodeValid = true
    · have hbases : x.basesAligned = false := by
        rw [← Bool.not_eq_true]
        exact fun hb => hvalue.1 ⟨hsize, hb⟩ hv
      exact (if_neg (fails hsize)).trans (if_pos (congrArg Bool.not hbases))
    · exact if_pos (congrArg Bool.not (Bool.not_eq_true _ ▸ hsize))
  · obtain ⟨hsize, hbases⟩ := hvalue.2 hv
    refine (if_neg (mt hstate.1 h)).trans ?_
    refine (if_neg (fails hsize)).trans ((if_neg (fails hbases)).trans ?_)
    by_cases hself : x.selfOverlap = true
    · exact if_pos hself
    · exact (if_neg hself).trans (if_pos ((hoverlap.2 ho).resolve_left hself))

/-- R23: a window that does not pass the tests is refused with their result. -/
theorem State.enableWindow_of_refused {s : State} {w : WindowId} (h : s.enableTest w ≠ .accepted) :
    s.enableWindow w = (s.enableTest w, s) := by
  unfold State.enableWindow
  split
  · exact absurd ‹_› h
  · rfl

theorem exec_enable_of_refused {s : State} {w : WindowId} {result : CommandResult} (htakes : s.takesCommand)
    (hargument : s.link.argument.toNat = w.val) (htest : s.enableTest w = result) (hresult : result ≠ .accepted) :
    exec .enable s = .next (s.commandDone 0x01 result) := by
  have hbody : (s.taking 0x01).enableNamed = (result, s.taking 0x01) := by
    have htest' : (s.taking 0x01).enableTest w = result := htest
    rw [State.enableNamed, State.onWindow_val hargument, State.enableWindow_of_refused (by rw [htest']; exact hresult), htest']
  rw [exec_enable, State.command_of_unchanged htakes hbody]

/-- Settles O38: the boot test, the code and the argument, then tests 3 to 7 of ENABLE. -/
theorem commandsAreRefusedByTestsInOrder : Obligations.CommandsAreRefusedByTestsInOrder := by
  refine ⟨fun s hframe => ⟨fun hboot => ?_, fun code hcode => ?_, fun hboot harg => ?_, fun hboot harg => ?_⟩,
    fun s w htakes hargument => ?_⟩
  · simp only [exec_enable, exec_disable, exec_suspend, exec_publish, exec_rollback, exec_boundary, exec_softReset,
      State.command_of_boot hframe hboot, and_self]
  · rw [exec_noCommand ((namesCommand_eq_false code).2 hcode)]
    cases hboot : s.bootInProgress with
    | true => rw [State.command_of_boot hframe hboot]; rfl
    | false =>
      have hbody : (s.taking code).noCommand = (.refusedArgument, s.taking code) := rfl
      rw [State.command_of_unchanged ⟨hframe, hboot⟩ hbody]; rfl
  · have htakes : s.takesCommand := ⟨hframe, hboot⟩
    refine ⟨?_, ?_, ?_⟩
    · rw [exec_enable, State.command_of_unchanged htakes (State.onWindow_of_ge harg 0x01 _)]
    · rw [exec_disable, State.command_of_unchanged htakes (State.onWindow_of_ge harg 0x02 _)]
    · rw [exec_suspend, State.command_of_unchanged htakes (State.onWindow_of_ge harg 0x03 _)]
  · have htakes : s.takesCommand := ⟨hframe, hboot⟩
    refine ⟨?_, ?_⟩
    · rw [exec_publish, State.command_of_unchanged htakes (State.onGroup_of_ge harg 0x04 _)]
    · rw [exec_rollback, State.command_of_unchanged htakes (State.onGroup_of_ge harg 0x05 _)]
  · obtain ⟨hstate, hvalue, hoverlap⟩ := s.enableTest_eq w
    exact ⟨fun h => exec_enable_of_refused htakes hargument (hstate h) (by decide),
      fun h hv => exec_enable_of_refused htakes hargument (hvalue h hv) (by decide),
      fun h hv ho => exec_enable_of_refused htakes hargument (hoverlap h hv ho) (by decide)⟩

end Sys2Proof.Machine
end

section
/-! Proofs about publication groups: what a group does at a boundary (R67, R71, R72), the test of the rollback-pending marks
(R79), and what a boundary of a source comes to (R85, R86). -/

namespace Sys2Proof.Machine

open Sys2Proof

/-! ## A boundary at a group (R67) -/

/-- R67, R72: the group states and counts at which a boundary finds nothing to publish, or no gate that passes. -/
theorem State.takeBoundary_armed {s : State} {g : GroupId} {c : Lag} {late : Bool} (h : s.groups[g].state = .armed c late)
    (n : Epoch) :
    (s.groups[g].hold = true ∨ late = true →
      s.takeBoundary g n = s.setGroup g { s.groups[g] with state := .armed c false }) ∧
    (s.groups[g].hold = false → late = false → c = .two →
      s.takeBoundary g n = s.setGroup g { s.groups[g] with state := .armed .one false }) ∧
    (s.groups[g].hold = false → late = false → c = .one → s.gatePasses g = false → s.takeBoundary g n =
      (s.setGroup g { s.groups[g] with state := .armed .one false }).record (.missed g n)) ∧
    (s.groups[g].hold = false → late = false → c = .one → s.gatePasses g = true →
      s.takeBoundary g n = s.flipGroup g n) := by
  unfold State.takeBoundary
  simp only [h]
  refine ⟨fun hh => if_pos (by simpa only [Bool.or_eq_true] using hh), fun hh hl hc => ?_, fun hh hl hc hg => ?_,
    fun hh hl hc hg => ?_⟩ <;> subst hl hc
  · simp only [hh, Bool.or_self, Bool.false_eq_true, if_false]
  · simp only [hh, hg, Bool.or_self, Bool.false_eq_true, if_false]
  · simp only [hh, hg, Bool.or_self, Bool.false_eq_true, if_false, if_true]

/-- R67: a group that is not ARMED leaves a boundary. -/
theorem State.takeBoundary_of_not_armed {s : State} {g : GroupId} (h : s.groups[g].state.isArmed = false) (n : Epoch) :
    s.takeBoundary g n = s := by
  unfold State.takeBoundary
  cases hs : s.groups[g].state with
  | opened | blocked => rfl
  | armed c late => rw [hs] at h; cases h

/-- R69: where the gate passes, a member that takes part is ACTIVE. -/
theorem State.active_of_gatePasses {s : State} {g : GroupId} (h : s.gatePasses g = true) {w : WindowId}
    (hw : s.windows[w].partOf g = true) : s.windows[w].state = .active ∧ s.windows[w].carry = [] := by
  obtain ⟨hactive, hcarry, -⟩ := (s.memberReady_iff g _).1 ((s.gatePasses_iff g).1 h w hw)
  exact ⟨hactive, hcarry⟩

theorem State.flipMembers_window (s : State) (g : GroupId) (n : Epoch) (w : WindowId) :
    (s.flipMembers g n).windows[w] = if s.windows[w].partOf g then s.windows[w].flipped n else s.windows[w] := by
  simp [State.flipMembers]

/-- R29: a flip of an ACTIVE window leaves its state. -/
theorem Window.flipped_of_active {x : Window} (h : x.state = .active) (n : Epoch) :
    x.flipped n = { x with live := x.live.other, carry := x.dirty, dirty := [], publishedEpoch := some n } := by
  rw [Window.flipped, ← h]

/-- R71: what the flip of a group with a passing gate leaves of a window. -/
theorem State.flipMembers_of_gatePasses {s : State} {g : GroupId} (h : s.gatePasses g = true) (n : Epoch) (w : WindowId) :
    (s.windows[w].group = g → s.windows[w].state = .active → (s.flipMembers g n).windows[w] = { s.windows[w] with
      live := s.windows[w].live.other
      carry := s.windows[w].dirty
      dirty := []
      publishedEpoch := some n }) ∧
    (s.windows[w].group ≠ g ∨ s.windows[w].state ≠ .active → (s.flipMembers g n).windows[w] = s.windows[w]) := by
  rw [State.flipMembers_window]
  refine ⟨fun hg ha => ?_, fun hn => if_neg fun hp => ?_⟩
  · rw [if_pos ((s.windows[w].partOf_iff g).2 ⟨hg, by rw [ha]; decide, by rw [ha]; decide⟩), Window.flipped_of_active ha]
  · obtain ⟨hactive, -⟩ := State.active_of_gatePasses h hp
    obtain ⟨hg, -, -⟩ := (s.windows[w].partOf_iff g).1 hp
    exact hn.elim (fun h => h hg) fun h => h hactive

/-- Settles O37: the group's state, its hold flag, late mark and countdown, and the gate. -/
theorem groupTakesBoundaryByState : Obligations.GroupTakesBoundaryByState := by
  refine fun s g n => ⟨fun h => State.takeBoundary_of_not_armed h n, fun c late h => ?_⟩
  obtain ⟨hheld, htwo, hmissed, hflip⟩ := State.takeBoundary_armed h n
  refine ⟨hheld, htwo, hmissed, fun hh hl hc hg => ⟨(s.flipMembers g n).windows, ?_, ?_⟩⟩
  · exact hflip hh hl hc hg
  · exact State.flipMembers_of_gatePasses hg n

/-! ## The test of the rollback-pending marks (R79) -/

/-- A table with one entry replaced, place by place. -/
theorem vector_set_apply {α : Type} {n : Nat} (v : Vector α n) (i j : Fin n) (x : α) :
    (v.set i x)[j] = if i = j then x else v[j] := by
  by_cases h : i = j
  · subst h; simp
  · have hne : (i : Nat) ≠ j := fun hv => h (Fin.ext hv)
    simp [h, Vector.getElem_set_ne _ _ hne]

theorem State.record_groups (s : State) (r : EventRecord) : (s.record r).groups = s.groups := rfl
theorem State.record_events (s : State) (r : EventRecord) : (s.record r).events = s.events.append r := rfl

theorem State.membersClean_iff (s : State) (g : GroupId) :
    s.membersClean g = true ↔ ∀ w : WindowId, s.windows[w].group = g → s.windows[w].carry = [] := by
  simp only [State.membersClean, List.all_eq_true, mem_places, true_implies, Bool.or_eq_true, Bool.not_eq_true',
    Window.memberOf, decide_eq_false_iff_not, List.isEmpty_iff, ← imp_iff_not_or]

/-- R79: the test of one mark. -/
theorem State.testRollback_eq (s : State) (g : GroupId) :
    (s.rollbackEnds s.groups g →
      s.testRollback g = (s.setGroup g { s.groups[g] with rollbackPending := false }).record (.rollbackDone g)) ∧
    (¬ s.rollbackEnds s.groups g → s.testRollback g = s) := by
  have hends : (s.groups[g].rollbackPending && s.membersClean g) = true ↔ s.rollbackEnds s.groups g := by
    rw [Bool.and_eq_true, s.membersClean_iff]
  exact ⟨fun h => if_pos (hends.2 h), fun h => if_neg (mt hends.1 h)⟩

/-- What the test of one mark leaves of the groups and of the event queue. -/
theorem State.testRollback_group (s : State) (g h : GroupId) : (s.testRollback g).groups[h] =
    if g = h ∧ s.rollbackEnds s.groups g then { s.groups[h] with rollbackPending := false } else s.groups[h] := by
  obtain ⟨hends, hstays⟩ := s.testRollback_eq g
  by_cases he : s.rollbackEnds s.groups g
  · rw [hends he]
    by_cases hgh : g = h
    · subst hgh
      rw [if_pos ⟨rfl, he⟩, State.record_groups, State.setGroup_groups, vector_set_apply, if_pos rfl]
    · rw [if_neg fun hc => hgh hc.1, State.record_groups, State.setGroup_groups, vector_set_apply, if_neg hgh]
  · rw [hstays he, if_neg fun hc => he hc.2]

theorem State.testRollback_events (s : State) (g : GroupId) : (s.testRollback g).events =
    if s.rollbackEnds s.groups g then s.events.append (.rollbackDone g) else s.events := by
  obtain ⟨hends, hstays⟩ := s.testRollback_eq g
  by_cases he : s.rollbackEnds s.groups g
  · rw [hends he, if_pos he]; rfl
  · rw [hstays he, if_neg he]

/-- The test of one mark leaves what another mark waits for. -/
theorem State.rollbackEnds_testRollback (s : State) {g h : GroupId} (hgh : g ≠ h) :
    (s.testRollback g).rollbackEnds (s.testRollback g).groups h ↔ s.rollbackEnds s.groups h := by
  have hgroup : (s.testRollback g).groups[h] = s.groups[h] := by
    rw [State.testRollback_group, if_neg fun hc => hgh hc.1]
  have hwindows : (s.testRollback g).windows = s.windows := by simp
  simp only [State.rollbackEnds, hgroup, hwindows]

/-- R79: the test of several marks, one after the other. -/
theorem State.testRollback_walk (l : List GroupId) (hl : l.Nodup) (s : State) :
    (∀ g : GroupId, (l.foldl State.testRollback s).groups[g] =
      if g ∈ l ∧ s.rollbackEnds s.groups g then { s.groups[g] with rollbackPending := false } else s.groups[g]) ∧
    (l.foldl State.testRollback s).events =
      l.foldl (fun q g => if s.rollbackEnds s.groups g then q.append (.rollbackDone g) else q) s.events := by
  induction l generalizing s with
  | nil => simp
  | cons a l ih =>
    obtain ⟨ha, hl⟩ := List.nodup_cons.1 hl
    obtain ⟨hgroups, hevents⟩ := ih hl (s.testRollback a)
    have hother {g : GroupId} (hg : g ∈ l) := s.rollbackEnds_testRollback (g := a) (h := g) fun h => ha (h ▸ hg)
    refine ⟨fun g => ?_, ?_⟩
    · rw [List.foldl_cons, hgroups]
      by_cases hg : g ∈ l
      · have hsame : (s.testRollback a).groups[g] = s.groups[g] := by
          have hag : ¬ (a = g ∧ s.rollbackEnds s.groups a) := fun ⟨h, _⟩ => ha (h ▸ hg)
          exact (s.testRollback_group a g).trans (if_neg hag)
        simp only [hg, hother hg, hsame, List.mem_cons, or_true, true_and]
      · simp only [hg, false_and, if_false, List.mem_cons, or_false, eq_comm (a := g), State.testRollback_group]
        by_cases hag : a = g
        · subst hag; rfl
        · simp only [hag, false_and]
    · rw [List.foldl_cons, List.foldl_cons, hevents, State.testRollback_events]
      refine List.foldl_ext _ _ _ fun q g hg => ?_
      simp only [hother hg]

/-- R79: the marks that end are cleared with their records, G0 first (log 23). -/
theorem State.testRollbacks_rollbacksEnd (s : State) : s.testRollbacks.rollbacksEnd s.groups s.events := by
  obtain ⟨hgroups, hevents⟩ := State.testRollback_walk (places 4) ((places_sorted 4).imp ne_of_lt) s
  have hwindows : s.testRollbacks.windows = s.windows := by simp
  have hends (g : GroupId) : s.testRollbacks.rollbackEnds s.groups g ↔ s.rollbackEnds s.groups g := by
    simp only [State.rollbackEnds, hwindows]
  refine ⟨fun g => ?_, ?_⟩
  · simp only [hends]
    exact (hgroups g).trans (by simp only [mem_places, true_and])
  · simp only [hends]
    exact hevents

/-- The marks that end depend on the windows, the groups and the event queue only. -/
theorem State.rollbacksEnd_congr {t u : State} {before : Vector Group 4} {events : EventQueue}
    (h : t.rollbacksEnd before events) (hwindows : u.windows = t.windows) (hgroups : u.groups = t.groups)
    (hevents : u.events = t.events) : u.rollbacksEnd before events := by
  have hends (g : GroupId) : u.rollbackEnds before g ↔ t.rollbackEnds before g := by
    simp only [State.rollbackEnds, hwindows]
  obtain ⟨hg, he⟩ := h
  refine ⟨fun g => ?_, ?_⟩
  · rw [hgroups, hg]; simp only [hends]
  · rw [hevents, he]; simp only [hends]

end Sys2Proof.Machine
end

section
/-! Proofs about the data bytes of a write frame: the bytes that commit a field (R5, R81, R88, R149, R153, R160, R163). -/

namespace Sys2Proof.Machine

open Sys2Proof

/-! ## States are equal block by block -/

theorem State.eq_of_blocks {s t : State} (hwindows : s.windows = t.windows) (hcarry : s.carry = t.carry)
    (hgroups : s.groups = t.groups) (htiming : s.timing = t.timing) (hport : s.port = t.port) (hlocks : s.locks = t.locks)
    (hmem : s.mem = t.mem) (hevents : s.events = t.events) (hlink : s.link = t.link) (hstartUp : s.startUp = t.startUp)
    (hpins : s.pins = t.pins) (hfree : s.freeUses = t.freeUses) (hpending : s.pending = t.pending) : s = t := by
  cases s
  cases t
  simp_all

/-! ## The rows of data bytes -/

theorem exec_fieldWrite (b : Byte) (s : State) : exec (.fieldWrite b) s = .next (s.quiet.byteAs .fieldWrite b) := rfl
theorem exec_windowConfigWrite (b : Byte) (s : State) :
    exec (.windowConfigWrite b) s = .next (s.quiet.byteAs .windowConfigWrite b) := rfl
theorem exec_groupConfigWrite (b : Byte) (s : State) :
    exec (.groupConfigWrite b) s = .next (s.quiet.byteAs .groupConfigWrite b) := rfl
theorem exec_holdWrite (b : Byte) (s : State) : exec (.holdWrite b) s = .next (s.quiet.byteAs .holdWrite b) := rfl
theorem exec_closeDelayWrite (b : Byte) (s : State) :
    exec (.closeDelayWrite b) s = .next (s.quiet.byteAs .closeDelayWrite b) := rfl
theorem exec_limitWrite (b : Byte) (s : State) : exec (.limitWrite b) s = .next (s.quiet.byteAs .limitWrite b) := rfl
theorem exec_eventMaskWrite (b : Byte) (s : State) :
    exec (.eventMaskWrite b) s = .next (s.quiet.byteAs .eventMaskWrite b) := rfl
theorem exec_overrunFlagClear (s : State) :
    exec .overrunFlagClear s = .next (s.quiet.byteAs .overrunFlagClear 0) := rfl
theorem exec_writeRefusedFlagClear (s : State) :
    exec .writeRefusedFlagClear s = .next (s.quiet.byteAs .writeRefusedFlagClear 0) := rfl

/-! ## The state in which a commit finds the part, and what it leaves -/

/-- R160: the part as the owner of a field finds it at a commit: outputs and staging buffer cleared. -/
def State.committing (s : State) : State := s.quiet.withLink { s.link with staging := [] }

/-- R159: the index of a write frame advances after a byte. -/
def State.advanced (s : State) (i : Index) : State := s.withLink { s.link with frame := .write (i + 1) }

theorem State.committing_advanced (s : State) (i : Index) :
    s.committing.advanced i = s.quiet.withLink (s.link.committed i) := rfl

/-- R159, R160: the byte at a field's highest index, outside a boot load, hands the composed value to the field's owner. -/
theorem State.byteAs_committing {s : State} {i : Index} {b : Byte} {f : Field} {o : Nat} {row : ByteRow} {v : Nat}
    (hframe : s.byteFrame = .write i) (hboot : s.bootInProgress = false) (hfield : fieldAt i = some (f, o))
    (hwidth : o + 1 = f.width) (hwrite : f.readOnly = false) (hrow : commitRow f b = row)
    (hvalue : s.composed f (i - BitVec.ofNat 16 o) ((i, b) :: s.link.staging) = v) :
    s.quiet.byteAs row b = (s.committing.commit f v).advanced i :=
  s.byteAs_commits i b f o row hframe hboot hfield hwidth hwrite hrow _ (by rw [hvalue]; rfl)

theorem ofNat_toNat_self {n : Nat} (x : BitVec n) : BitVec.ofNat n x.toNat = x := by simp

/-! ## Close delays and limits (R88, R163) -/

theorem fieldAt_sourceCloseDelay {i : Index} {e : SourceId} (h : i.toNat = 0x0487 + 16 * e.val) :
    fieldAt i = some (.sourceCloseDelay e, 2) :=
  fieldAt_source i e 7 (by decide) (by omega)

theorem fieldAt_limits : fieldAt 0x0005 = some (.holdLimit, 1) ∧ fieldAt 0x0007 = some (.lockLimit, 1) ∧
    fieldAt 0x0009 = some (.memoryLimit, 1) := by decide

/-- R163: what the commit of a limit of zero does. -/
theorem State.commitLimit_zero (s : State) (after : Link) : s.commitLimit 0 after = s.refuseWrite := rfl

theorem State.commitLimit_ne {v : Nat} (h : v ≠ 0) (s : State) (after : Link) : s.commitLimit v after = s.withLink after :=
  if_neg h

/-- The three limits as fields, each with the link after it takes a value. -/
inductive LimitField : Field → (Link → BitVec 16 → Link) → Index → Prop where
  | hold : LimitField .holdLimit (fun l v => { l with holdLimit := v }) 0x0005
  | lock : LimitField .lockLimit (fun l v => { l with lockLimit := v }) 0x0007
  | memory : LimitField .memoryLimit (fun l v => { l with memoryLimit := v }) 0x0009

/-- R163: the high byte of a limit hands the value of both bytes to the test against 0. -/
theorem LimitField.exec_limitWrite {f : Field} {take : Link → BitVec 16 → Link} {i : Index} (hlimit : LimitField f take i)
    {s : State} (hboot : s.bootInProgress = false) (hframe : s.byteFrame = .write i) {lo hi : Byte}
    (hlow : s.lowerBytes f i [lo]) :
    exec (.limitWrite hi) s =
      .next ((s.committing.commitLimit (hi ++ lo).toNat (take s.committing.link (hi ++ lo))).advanced i) := by
  rw [Machine.exec_limitWrite]
  congr 1
  obtain ⟨hhold, hlock, hmemory⟩ := fieldAt_limits
  cases hlimit
  · rw [State.byteAs_committing (row := .limitWrite) hframe hboot hhold rfl rfl rfl (s.composed_two .holdLimit rfl _ lo hi hlow),
      State.commit, ofNat_toNat_self]
  · rw [State.byteAs_committing (row := .limitWrite) hframe hboot hlock rfl rfl rfl (s.composed_two .lockLimit rfl _ lo hi hlow),
      State.commit, ofNat_toNat_self]
  · rw [State.byteAs_committing (row := .limitWrite) hframe hboot hmemory rfl rfl rfl (s.composed_two .memoryLimit rfl _ lo hi hlow),
      State.commit, ofNat_toNat_self]

/-- R163: a composed limit of 0 is refused. -/
theorem LimitField.refuses_zero {f : Field} {take : Link → BitVec 16 → Link} {i : Index} (hlimit : LimitField f take i)
    {s : State} (hboot : s.bootInProgress = false) (hframe : s.byteFrame = .write i) {lo hi : Byte}
    (hlow : s.lowerBytes f i [lo]) (hzero : hi ++ lo = (0 : BitVec 16)) :
    exec (.limitWrite hi) s = .next (s.quiet.withLink { s.link.committed i with writeRefused := true }) := by
  have hv : (hi ++ lo).toNat = 0 := congrArg BitVec.toNat hzero
  rw [hlimit.exec_limitWrite hboot hframe hlow, hv, State.commitLimit_zero]
  rfl

/-- R163: a limit other than 0 is taken. -/
theorem LimitField.takes_value {f : Field} {take : Link → BitVec 16 → Link} {i : Index} (hlimit : LimitField f take i)
    {s : State} (hboot : s.bootInProgress = false) (hframe : s.byteFrame = .write i) {lo hi : Byte}
    (hlow : s.lowerBytes f i [lo]) (hvalue : hi ++ lo ≠ (0 : BitVec 16)) :
    exec (.limitWrite hi) s = .next (s.quiet.withLink (take (s.link.committed i) (hi ++ lo))) := by
  have hv : (hi ++ lo).toNat ≠ 0 := fun h => hvalue (BitVec.eq_of_toNat_eq h)
  rw [hlimit.exec_limitWrite hboot hframe hlow, State.commitLimit_ne hv]
  cases hlimit <;> rfl

/-- Settles O53: the close delay of a source, and the three limits with their test against 0. -/
theorem closeDelaysAndLimitsCommitAtTheirHighestByte : Obligations.CloseDelaysAndLimitsCommitAtTheirHighestByte := by
  intro s i hboot hframe
  refine ⟨fun e b0 b1 b2 hi hlow => ?_, fun lo hi => ⟨fun hlow hzero => ?_, fun hvalue => ⟨?_, ?_, ?_⟩⟩⟩
  · rw [exec_closeDelayWrite, State.byteAs_committing (row := .closeDelayWrite) hframe hboot (fieldAt_sourceCloseDelay hi) rfl rfl rfl
      (s.composed_three (.sourceCloseDelay e) rfl i b0 b1 b2 hlow), State.commit, ofNat_toNat_self]
    rfl
  · obtain ⟨rfl, hlow⟩ | ⟨rfl, hlow⟩ | ⟨rfl, hlow⟩ := hlow
    · exact LimitField.hold.refuses_zero hboot hframe hlow hzero
    · exact LimitField.lock.refuses_zero hboot hframe hlow hzero
    · exact LimitField.memory.refuses_zero hboot hframe hlow hzero
  · rintro rfl hlow; exact LimitField.hold.takes_value hboot hframe hlow hvalue
  · rintro rfl hlow; exact LimitField.lock.takes_value hboot hframe hlow hvalue
  · rintro rfl hlow; exact LimitField.memory.takes_value hboot hframe hlow hvalue

/-! ## The event mask and the two flags (R149, R153, R162) -/

theorem fieldAt_flags : fieldAt 0x000F = some (.eventMask, 3) ∧ fieldAt 0x0011 = some (.overrun, 0) ∧
    fieldAt 0x0003 = some (.writeRefused, 0) ∧ fieldAt 0x0000 = some (.argument, 0) := by decide

/-- R162: the write-refused flag takes its byte during a boot load too. -/
theorem State.byteAs_writeRefused {s : State} (hframe : s.byteFrame = .write 0x0003) (b : Byte) {row : ByteRow}
    (hrow : commitRow .writeRefused b = row) :
    s.quiet.byteAs row b = (s.committing.commit .writeRefused b.toNat).advanced 0x0003 := by
  obtain ⟨-, -, hfield, -⟩ := fieldAt_flags
  have hbyteRow : byteRow 0x0003 b = row := by
    rw [byteRow, hfield, ← hrow]; rfl
  have hwrite : s.quiet.writeAt 0x0003 b = s.committing.commit .writeRefused b.toNat := by
    have hvalue : s.quiet.composed .writeRefused (0x0003 - BitVec.ofNat 16 0) ((0x0003, b) :: s.link.staging) = b.toNat :=
      s.quiet.composed_one .writeRefused rfl 0x0003 b _
    unfold State.writeAt
    rw [hfield]
    simp only [Field.readOnly, Field.openInBoot, Field.width, Bool.false_eq_true, if_false, Bool.not_true, Bool.and_false,
      zero_add, lt_irrefl]
    exact congrArg _ hvalue
  unfold State.byteAs
  rw [State.quiet_byteFrame, hframe]
  simp only [hbyteRow, if_true, State.writeByte, hwrite]
  rfl

/-- Settles O54: the mask with the unnamed positions clear, and the two flags that take a 0. -/
theorem maskCommitsAndFlagsClear : Obligations.MaskCommitsAndFlagsClear := by
  intro s
  obtain ⟨hmask, hoverrun, hrefused, -⟩ := fieldAt_flags
  refine ⟨fun b0 b1 b2 b3 hboot hframe hlow => ?_, fun hboot hframe => ?_, fun hframe => ?_⟩
  · intro mask
    rw [exec_eventMaskWrite, State.byteAs_committing (row := .eventMaskWrite) hframe hboot hmask rfl rfl rfl
      (s.composed_four .eventMask rfl _ b0 b1 b2 b3 hlow), State.commit, ofNat_toNat_self]
    rfl
  · rw [exec_overrunFlagClear, State.byteAs_committing (row := .overrunFlagClear) hframe hboot hoverrun rfl rfl rfl
      (s.composed_one .overrun rfl _ 0 _)]
    rfl
  · rw [exec_writeRefusedFlagClear, State.byteAs_writeRefused (row := .writeRefusedFlagClear) hframe 0 rfl]
    rfl

/-! ## Group and policy of a window (R5, R79) -/

theorem policyOf_byte (p : ForeignPolicy) : policyOf p.byte.toNat = some p := by
  cases p <;> rfl

theorem policyOf_of_ge {n : Nat} (h : 3 ≤ n) : policyOf n = none := by
  simp only [policyOf]
  rw [if_neg (by omega), if_neg (by omega), if_neg (by omega)]

/-- R5: the test of a group or policy byte by the window's state and the value. -/
theorem State.commitMode_taken {s : State} {w : WindowId}
    (h : s.windows[w].state = .disabled ∨ s.windows[w].state = .suspended) (x : Window) :
    s.commitMode w (some x) = (s.setWindow w x).testRollbacks := by
  unfold State.commitMode
  rcases h with h | h <;> simp only [h]

theorem State.commitMode_refused {s : State} {w : WindowId} {after : Option Window}
    (h : ¬ (s.windows[w].state = .disabled ∨ s.windows[w].state = .suspended) ∨ after = none) :
    s.commitMode w after = s.refuseWrite := by
  unfold State.commitMode
  rcases h with h | rfl
  · cases hs : s.windows[w].state with
    | disabled => exact absurd (.inl hs) h
    | suspended => exact absurd (.inr hs) h
    | seeding | active | homing | faulted => rfl
  · cases s.windows[w].state <;> rfl

/-- R5: a mode byte that is refused leaves only the link. -/
theorem State.refuseWrite_advanced (s : State) (i : Index) :
    s.committing.refuseWrite.advanced i = s.quiet.withLink { s.link.committed i with writeRefused := true } := rfl

/-- R5, R79: a mode byte that is taken leaves the window, the link and the marks it ends. -/
theorem State.setWindow_testRollbacks_advanced (s : State) (w : WindowId) (x : Window) (i : Index) {t : State}
    (ht : t = ((s.committing.setWindow w x).testRollbacks).advanced i) :
    t.rollbacksEnd s.groups s.events ∧ t = { s.quiet with
      windows := s.windows.set w x
      link := s.link.committed i
      groups := t.groups
      events := t.events } := by
  have hmarks := (s.committing.setWindow w x).testRollbacks_rollbacksEnd
  rw [State.setWindow_groups, State.setWindow_events] at hmarks
  obtain ⟨hwindows, hcarry, htiming, hport, hlocks, hmem, hlink, hstartUp, hpins, hfree, hpending⟩ :=
    State.testRollbacks_frame (s.committing.setWindow w x)
  generalize (s.committing.setWindow w x).testRollbacks = u at *
  constructor
  · exact State.rollbacksEnd_congr hmarks (by rw [ht]; rfl) (by rw [ht]; rfl) (by rw [ht]; rfl)
  · subst ht
    refine State.eq_of_blocks hwindows hcarry rfl htiming hport hlocks hmem rfl ?_ hstartUp hpins hfree hpending
    exact congrArg (fun l : Link => { l with frame := .write (i + 1) }) hlink

/-- Settles O50: both mode bytes, by the window's state and the value. -/
theorem windowModeBytesNeedStoppedWindow : Obligations.WindowModeBytesNeedStoppedWindow := by
  intro s w b hboot stopped taken
  have hrefuse {after : Option Window} (h : ¬ stopped ∨ after = none) :
      s.committing.commitMode w after = s.committing.refuseWrite :=
    State.commitMode_refused (s := s.committing) h
  have htake {x : Window} (i : Index) (h : stopped) (hexec : exec (.windowConfigWrite b) s =
      .next ((s.committing.commitMode w (some x)).advanced i)) : taken i x := by
    have hmode : s.committing.commitMode w (some x) = (s.committing.setWindow w x).testRollbacks   :=
      State.commitMode_taken (s := s.committing) h x
    rw [hmode] at hexec
    exact ⟨_, hexec, s.setWindow_testRollbacks_advanced w x i rfl⟩
  refine ⟨fun i hi hframe => ?_, fun i hi hframe => ?_⟩
  · have hfield : fieldAt i = some (.windowGroup w, 0) := fieldAt_window i w 9 (by decide) (by omega)
    have hexec : exec (.windowConfigWrite b) s = .next ((s.committing.commitMode w
        ((groupOf b.toNat).map fun g => { s.windows[w] with group := g })).advanced i) := by
      rw [exec_windowConfigWrite, State.byteAs_committing (row := .windowConfigWrite) hframe hboot hfield rfl rfl rfl
        (s.composed_one (.windowGroup w) rfl i b _)]
      rfl
    refine ⟨fun g h hg => htake i h ?_, fun h => ?_⟩
    · rw [hexec, groupOf_val hg]; rfl
    · rw [hexec, hrefuse (h.imp_right fun hb => by rw [groupOf_of_ge hb]; rfl), State.refuseWrite_advanced]
  · have hfield : fieldAt i = some (.windowPolicy w, 0) := fieldAt_window i w 10 (by decide) (by omega)
    have hexec : exec (.windowConfigWrite b) s = .next ((s.committing.commitMode w
        ((policyOf b.toNat).map fun p => { s.windows[w] with policy := p })).advanced i) := by
      rw [exec_windowConfigWrite, State.byteAs_committing (row := .windowConfigWrite) hframe hboot hfield rfl rfl rfl
        (s.composed_one (.windowPolicy w) rfl i b _)]
      rfl
    refine ⟨fun p h hp => htake i h ?_, fun h => ?_⟩
    · rw [hexec, hp, policyOf_byte]; rfl
    · rw [hexec, hrefuse (h.imp_right fun hb => by rw [policyOf_of_ge hb]; rfl), State.refuseWrite_advanced]

end Sys2Proof.Machine
end

section
/-! Proofs about the bytes of a group record (R81, R65), the bytes that no commit follows (R160, R162, R170), and the frame
(R158, R159). -/

namespace Sys2Proof.Machine

open Sys2Proof

/-! ## Group configuration (R81, R182) -/

/-- R81: a group field is taken while the group is OPEN and the value names one. -/
theorem State.commitGroup_taken {s : State} {g : GroupId} (h : s.groups[g].state = .opened) (x : Group) :
    s.commitGroup g (some x) = s.setGroup g x := by
  unfold State.commitGroup
  simp only [h]

theorem State.commitGroup_refused {s : State} {g : GroupId} {after : Option Group}
    (h : after = none ∨ s.groups[g].state ≠ .opened) : s.commitGroup g after = s.refuseWrite := by
  unfold State.commitGroup
  rcases h with rfl | h
  · cases s.groups[g].state <;> rfl
  · cases hs : s.groups[g].state with
    | opened => exact absurd hs h
    | armed c late => rfl
    | blocked => rfl

theorem lagOf_byte (b : Byte) : (b = 1 → lagOf b.toNat = some .one) ∧ (b = 2 → lagOf b.toNat = some .two) ∧
    (b ≠ 1 → b ≠ 2 → lagOf b.toNat = none) := by
  refine ⟨by rintro rfl; rfl, by rintro rfl; rfl, fun h1 h2 => ?_⟩
  have hn1 : b.toNat ≠ 1 := fun h => h1 (BitVec.eq_of_toNat_eq h)
  have hn2 : b.toNat ≠ 2 := fun h => h2 (BitVec.eq_of_toNat_eq h)
  simp only [lagOf]
  rw [if_neg hn1, if_neg hn2]

theorem triggerOf_eq {n offset : Nat} (w : WindowId) (h : n = w.val) :
    triggerOf n offset = if offset ≤ 131071 then some { window := w, offset := offset } else none := by
  unfold triggerOf
  rw [windowOf_val h]

theorem triggerOf_of_ge {n : Nat} (h : 16 ≤ n) (offset : Nat) : triggerOf n offset = none := by
  unfold triggerOf
  rw [windowOf_of_ge h]

/-- R182: the composed trigger value, taken apart into its first byte and the offset of the other three. -/
theorem trigger_value (b0 b1 b2 b3 : Byte) : (b3 ++ b2 ++ b1 ++ b0).toNat % 256 = b0.toNat ∧
    (b3 ++ b2 ++ b1 ++ b0).toNat / 256 = (b3 ++ b2 ++ b1).toNat := by
  rw [toNat_append_byte]
  have := b0.isLt
  omega

/-- R182: what a group takes of a composed trigger value. -/
theorem Group.withTrigger_eq (x : Group) (b0 b1 b2 b3 : Byte) :
    (b0 = 0 → x.withTrigger (b3 ++ b2 ++ b1 ++ b0).toNat = some { x with trigger := none }) ∧
    (∀ (w : WindowId) (n : Nat), b0.toNat = w.val + 1 → n = (b3 ++ b2 ++ b1).toNat → n ≤ 131071 →
      x.withTrigger (b3 ++ b2 ++ b1 ++ b0).toNat = some { x with trigger := some { window := w, offset := n } }) ∧
    (17 ≤ b0.toNat ∨ b0 ≠ 0 ∧ 131072 ≤ (b3 ++ b2 ++ b1).toNat →
      x.withTrigger (b3 ++ b2 ++ b1 ++ b0).toNat = none) := by
  obtain ⟨hfirst, hrest⟩ := trigger_value b0 b1 b2 b3
  unfold Group.withTrigger
  rw [hfirst, hrest]
  generalize (b3 ++ b2 ++ b1).toNat = n
  refine ⟨fun h => by subst h; rfl, fun w m hw hm hle => ?_, fun h => ?_⟩
  · subst hm
    rw [if_neg (by omega), triggerOf_eq w (by omega), if_pos hle]
  · have hne : b0.toNat ≠ 0 := by
      rcases h with h | ⟨h, -⟩
      · omega
      · exact fun h0 => h (BitVec.eq_of_toNat_eq h0)
    rw [if_neg hne]
    by_cases hb : 17 ≤ b0.toNat
    · rw [triggerOf_of_ge (by omega)]
    · obtain ⟨-, hn⟩ := h.resolve_left hb
      rw [triggerOf_eq ⟨b0.toNat - 1, by omega⟩ rfl, if_neg (by omega)]

/-- R81: what the byte at the highest index of a group's field hands to the group: one group after it, or none where the
value names none. -/
theorem exec_groupConfigWrite_commits {s : State} {g : GroupId} {i : Index} {b0 b1 b2 b : Byte} {after : Option Group}
    (hboot : s.bootInProgress = false) (hframe : s.byteFrame = .write i)
    (h : i.toNat = 0x0401 + 16 * g.val ∧ s.lowerBytes (.groupProducers g) i [b0] ∧
        after = some { s.groups[g] with producers := b ++ b0 } ∨
      i.toNat = 0x0402 + 16 * g.val ∧
        ((∃ e : SourceId, b.toNat = e.val ∧ after = some { s.groups[g] with source := e }) ∨
          3 ≤ b.toNat ∧ after = none) ∨
      i.toNat = 0x0403 + 16 * g.val ∧
        (b = 1 ∧ after = some { s.groups[g] with lag := .one } ∨
          b = 2 ∧ after = some { s.groups[g] with lag := .two } ∨ b ≠ 1 ∧ b ≠ 2 ∧ after = none) ∨
      i.toNat = 0x0408 + 16 * g.val ∧ s.lowerBytes (.groupTrigger g) i [b0, b1, b2] ∧
        (b0 = 0 ∧ after = some { s.groups[g] with trigger := none } ∨
          (∃ (w : WindowId) (n : Nat), b0.toNat = w.val + 1 ∧ n = (b ++ b2 ++ b1).toNat ∧ n ≤ 131071 ∧
            after = some { s.groups[g] with trigger := some { window := w, offset := n } }) ∨
          (17 ≤ b0.toNat ∨ b0 ≠ 0 ∧ 131072 ≤ (b ++ b2 ++ b1).toNat) ∧ after = none)) :
    exec (.groupConfigWrite b) s = .next ((s.committing.commitGroup g after).advanced i) := by
  rw [exec_groupConfigWrite]
  congr 1
  rcases h with ⟨hi, hlow, rfl⟩ | ⟨hi, hafter⟩ | ⟨hi, hafter⟩ | ⟨hi, hlow, hafter⟩
  · rw [State.byteAs_committing (row := .groupConfigWrite) hframe hboot (fieldAt_group i g 1 (by decide) (by omega)) rfl rfl
      rfl (s.composed_two (.groupProducers g) rfl i b0 b hlow), State.commit, ofNat_toNat_self]
    rfl
  · have hvalue : (sourceOf b.toNat).map (fun e => { s.groups[g] with source := e }) = after := by
      rcases hafter with ⟨e, he, rfl⟩ | ⟨hb, rfl⟩
      · rw [sourceOf_val he]; rfl
      · rw [sourceOf_of_ge hb]; rfl
    rw [State.byteAs_committing (row := .groupConfigWrite) hframe hboot (fieldAt_group i g 2 (by decide) (by omega)) rfl rfl
      rfl (s.composed_one (.groupSource g) rfl i b _), ← hvalue]
    rfl
  · have hvalue : (lagOf b.toNat).map (fun l => { s.groups[g] with lag := l }) = after := by
      obtain ⟨hone, htwo, hnone⟩ := lagOf_byte b
      rcases hafter with ⟨h, rfl⟩ | ⟨h, rfl⟩ | ⟨h1, h2, rfl⟩
      · rw [hone h]; rfl
      · rw [htwo h]; rfl
      · rw [hnone h1 h2]; rfl
    rw [State.byteAs_committing (row := .groupConfigWrite) hframe hboot (fieldAt_group i g 3 (by decide) (by omega)) rfl rfl
      rfl (s.composed_one (.groupLag g) rfl i b _), ← hvalue]
    rfl
  · have hvalue : s.groups[g].withTrigger (b ++ b2 ++ b1 ++ b0).toNat = after := by
      obtain ⟨hzero, hsome, hnone⟩ := s.groups[g].withTrigger_eq b0 b1 b2 b
      rcases hafter with ⟨h, rfl⟩ | ⟨w, n, hw, hn, hle, rfl⟩ | ⟨h, rfl⟩
      · exact hzero h
      · exact hsome w n hw hn hle
      · exact hnone h
    rw [State.byteAs_committing (row := .groupConfigWrite) hframe hboot (fieldAt_group i g 8 (by decide) (by omega)) rfl rfl
      rfl (s.composed_four (.groupTrigger g) rfl i b0 b1 b2 b hlow), ← hvalue]
    rfl

/-! ## The hold flag (R65) -/

/-- R65: the hold flag by the value, the flag held, the group's state and its source. -/
theorem State.writeHold_eq (s : State) (g : GroupId) :
    let x := s.groups[g]
    s.writeHold g true = s.setGroup g { x with hold := true } ∧
    (x.hold = false → s.writeHold g false = s) ∧
    (x.hold = true → x.state.isArmed = false → s.writeHold g false = s.setGroup g { x with hold := false }) ∧
    (∀ c late, x.hold = true → x.state = .armed c late →
      s.writeHold g false = s.setGroup g { x with hold := false, state := .armed c (late || s.sourceClosed g) }) := by
  intro x
  unfold State.writeHold
  refine ⟨rfl, fun h => ?_, fun h ha => ?_, fun c late h ha => ?_⟩
  · simp only [show s.groups[g].hold = false from h, Bool.false_eq_true, if_false]
  · simp only [show s.groups[g].hold = true from h, Bool.false_eq_true, if_false, if_true]
    cases hs : x.state with
    | armed c late => rw [hs] at ha; cases ha
    | opened | blocked => rfl
  · simp only [show s.groups[g].hold = true from h, show s.groups[g].state = .armed c late from ha, Bool.false_eq_true,
      if_false, if_true]
    rfl

/-- Settles O52: the four configuration fields while the group is OPEN and else, and the hold flag in every state. -/
theorem groupBytesFollowGroupState : Obligations.GroupBytesFollowGroupState := by
  refine ⟨fun s g i b0 b1 b2 b after hboot hframe h => ?_, fun s g i b hboot hi hframe => ?_⟩
  · have hexec := exec_groupConfigWrite_commits hboot hframe h
    refine ⟨fun x hx hopened => ?_, fun hrefused => ?_⟩
    · rw [hexec, hx, State.commitGroup_taken (s := s.committing) hopened]; rfl
    · rw [hexec, State.commitGroup_refused (s := s.committing) hrefused, State.refuseWrite_advanced]
  · have hexec : exec (.holdWrite b) s = .next ((s.committing.writeHold g (decide (b.toNat ≠ 0))).advanced i) := by
      rw [exec_holdWrite, State.byteAs_committing (row := .holdWrite) hframe hboot
        (fieldAt_group i g 4 (by decide) (by omega)) rfl rfl rfl (s.composed_one (.groupHold g) rfl i b _)]
      rfl
    have hclear (h : b = 0) : decide (b.toNat ≠ 0) = false := by subst h; rfl
    obtain ⟨hset, hstays, hother, harmed⟩ := s.committing.writeHold_eq g
    intro x closed
    refine ⟨fun h => ?_, fun h hh => ?_, fun h hh ha => ?_, fun c late h hh ha hc => ?_, fun c late h hh ha hc => ?_⟩
    · have hb : decide (b.toNat ≠ 0) = true := decide_eq_true fun h0 => h (BitVec.eq_of_toNat_eq h0)
      rw [hexec, hb, hset]; rfl
    · rw [hexec, hclear h, hstays hh, State.committing_advanced]
    · rw [hexec, hclear h, hother hh ha]; rfl
    · have hclosed : s.committing.sourceClosed g = true := decide_eq_true hc
      rw [hexec, hclear h, harmed c late hh ha, hclosed, Bool.or_true]; rfl
    · have hclosed : s.committing.sourceClosed g = false := decide_eq_false hc
      rw [hexec, hclear h, harmed c late hh ha, hclosed, Bool.or_false]; rfl

end Sys2Proof.Machine
end

section
/-! Proofs about the frame events and the bytes that no commit follows (R158, R159, R160, R162, R170), and the bytes of a read
frame (R150, R161). -/

namespace Sys2Proof.Machine

open Sys2Proof

/-! ## Frame events (R158, R159, R169) -/

theorem exec_frameOpen (s : State) : exec .frameOpen s = execFrameOpen s := rfl
theorem exec_frameEnd (s : State) : exec .frameEnd s = execFrameEnd s := rfl
theorem exec_identifierByte (b : Byte) (s : State) : exec (.identifierByte b) s = execIdentifierByte b s := rfl
theorem exec_indexBytes (hi lo : Byte) (s : State) : exec (.indexBytes hi lo) s = execIndexBytes hi lo s := rfl
theorem exec_headRecordRemoval (s : State) : exec .headRecordRemoval s = execHeadRecordRemoval s := rfl

/-- R158: the frame that an identifier names. -/
theorem identifiedFrame_eq (b : Byte) : identifiedFrame b =
    if b = 0xAE then .index .readFrame else if b = 0x2E then .index .writeFrame else .skip := by
  revert b
  decide +kernel

/-- Settles O45: each frame event in the frame states that take it. -/
theorem frameEventsMoveFrameState : Obligations.FrameEventsMoveFrameState := by
  intro s closed
  refine ⟨fun hmsel => ?_, fun hmsel => ?_, fun hframe b => ?_, fun hframe hi lo => ?_, fun hframe hi lo => ?_⟩
  · intro pins
    have hexec : exec .frameOpen s = if s.resetHeld then .next (s.quiet.withPins pins) else
        .next ((s.quiet.withPins pins).withLink { s.link.ended with frame := .ident }) := by
      simp only [exec_frameOpen, execFrameOpen, State.quiet_pins, hmsel, Bool.false_eq_true, if_false]
      rfl
    refine ⟨fun hopen => ?_, fun hheld => ?_⟩
    · rw [hexec, hopen]; rfl
    · rw [hexec, hheld]; rfl
  · simp only [exec_frameEnd, execFrameEnd, State.quiet_pins, hmsel, if_true]
    rfl
  · have hexec : exec (.identifierByte b) s = .next (s.quiet.withLink { s.link with frame := identifiedFrame b }) := by
      simp only [exec_identifierByte, execIdentifierByte, State.quiet_byteFrame, hframe, State.quiet_link]
    rw [hexec, identifiedFrame_eq]
    refine ⟨fun h => ?_, fun h => ?_, fun h1 h2 => ?_⟩
    · rw [if_pos h]; rfl
    · subst h; rfl
    · rw [if_neg h1, if_neg h2]; rfl
  · simp only [exec_indexBytes, execIndexBytes, State.quiet_byteFrame, hframe]
    rfl
  · simp only [exec_indexBytes, execIndexBytes, State.quiet_byteFrame, hframe]
    rfl

/-! ## The byte a read frame presents (R159, R161) -/

theorem State.present_of_none {s : State} {i : Index} (h : fieldAt i = none) :
    s.present i = s.withLink { s.link with out := some 0, mdo := some false } := by
  unfold State.present
  rw [h]
  rfl

theorem State.present_of_field {s : State} {i : Index} {f : Field} {o : Nat} (h : fieldAt i = some (f, o)) :
    s.present i = s.withLink { s.link with
      snapshot := some (s.snapshotFor f o)
      out := some ((s.snapshotFor f o).bytes.getD o 0)
      mdo := some ((s.snapshotFor f o).bytes.getD o 0).msb } := by
  unfold State.present
  rw [h]
  rfl

/-- R161: the snapshot is new at a field's lowest byte, and where the frame holds none of the field. -/
theorem State.snapshotFor_new {s : State} {f : Field} {o : Nat} (h : o = 0 ∨ ∀ n ∈ s.link.snapshot, n.field ≠ f) :
    s.snapshotFor f o = s.snapshotOf f := by
  unfold State.snapshotFor
  cases hn : s.link.snapshot with
  | none => rfl
  | some n =>
    refine if_neg fun hc => ?_
    obtain ⟨hf, ho⟩ : n.field = f ∧ o ≠ 0 := by simpa using hc
    exact h.elim ho fun h => h n (by simp [hn]) hf

theorem State.snapshotFor_held {s : State} {f : Field} {o : Nat} {n : Snapshot} (ho : o ≠ 0)
    (hn : s.link.snapshot = some n) (hf : n.field = f) : s.snapshotFor f o = n := by
  unfold State.snapshotFor
  rw [hn]
  exact if_pos (by simp [hf, ho])

/-- R150: the head record leaves exactly where the read of 0x002F completes under a snapshot that names one. -/
theorem State.completeRead_removes {s : State} {n : Snapshot} (hn : s.link.snapshot = some n)
    (hf : n.field = .headRecord) (hr : n.namesRecord = true) :
    s.completeRead 0x002F = s.withEvents s.events.removeHead := by
  unfold State.completeRead
  rw [hn]
  exact if_pos (by simp [hf, hr])

theorem State.completeRead_keeps {s : State} {i : Index}
    (h : i ≠ 0x002F ∨ ∀ n ∈ s.link.snapshot, n.field ≠ .headRecord ∨ n.namesRecord = false) : s.completeRead i = s := by
  unfold State.completeRead
  cases hn : s.link.snapshot with
  | none => rfl
  | some n =>
    refine if_neg fun hc => ?_
    obtain ⟨⟨hi, hf⟩, hr⟩ : (i = 0x002F ∧ n.field = .headRecord) ∧ n.namesRecord = true := by simpa using hc
    rcases h with h | h
    · exact h hi
    · rcases h n (by simp [hn]) with h | h
      · exact h hf
      · simp [hr] at h

theorem exec_headRecordRemoval_of_read {s : State} {i : Index} (h : s.byteFrame = .read i) :
    exec .headRecordRemoval s = .next (((s.quiet.completeRead i).withLink
      { (s.quiet.completeRead i).link with frame := .read (i + 1) }).present (i + 1)) := by
  simp only [exec_headRecordRemoval, execHeadRecordRemoval, State.quiet_byteFrame, h]

/-- Settles O47: the byte presented by its index and the snapshot, and the completion of a byte. -/
theorem readBytesFollowSnapshotAndRemoveHead : Obligations.ReadBytesFollowSnapshotAndRemoveHead := by
  refine ⟨fun s i => ⟨State.present_of_none, fun f o h => ⟨fun hnew => ?_, fun n ho hn hf => ?_⟩⟩, fun s i hframe => ?_⟩
  · rw [State.present_of_field h, State.snapshotFor_new hnew]
    rfl
  · rw [State.present_of_field h, State.snapshotFor_held ho hn hf, ← hn]
  · intro link records left
    refine ⟨fun n hi hn hf hr => ?_, fun h => ?_⟩
    · subst hi
      rw [exec_headRecordRemoval_of_read hframe, State.completeRead_removes (s := s.quiet) hn hf hr]
      rfl
    · rw [exec_headRecordRemoval_of_read hframe, State.completeRead_keeps (s := s.quiet) h]
      rfl

/-! ## Bytes that no commit follows (R160, R162, R170) -/

/-- The row of a byte at a field, by its place. -/
theorem byteRow_of_field {i : Index} {f : Field} {o : Nat} (h : fieldAt i = some (f, o)) (b : Byte) :
    byteRow i b = if o + 1 < f.width then .fieldWrite else commitRow f b := by
  rw [byteRow, h]

theorem Field.commitRow_of_readOnly {f : Field} (h : f.readOnly = true) (b : Byte) : commitRow f b = .fieldWrite := by
  cases f <;> simp_all [Field.readOnly, commitRow]

/-- R159: a data byte taken as its own row is written, and the index advances. -/
theorem State.byteAs_of_row {s : State} {i : Index} {b : Byte} {row : ByteRow} (hframe : s.byteFrame = .write i)
    (hrow : byteRow i b = row) : s.quiet.byteAs row b = (s.quiet.writeAt i b).advanced i := by
  unfold State.byteAs
  rw [State.quiet_byteFrame, hframe]
  exact if_pos hrow

/-- R162, R170: a byte that its field refuses as it is written. -/
theorem State.writeAt_refused {s : State} {i : Index} {f : Field} {o : Nat} (h : fieldAt i = some (f, o))
    (hrefuse : f.readOnly = true ∨ s.bootInProgress = true ∧ f.openInBoot = false) (b : Byte) :
    s.writeAt i b = s.refuseWrite := by
  unfold State.writeAt
  rw [h]
  by_cases hr : f.readOnly = true
  · exact if_pos hr
  · obtain ⟨hb, ho⟩ := hrefuse.resolve_left hr
    exact (if_neg hr).trans (if_pos (by simp [hb, ho]))

/-- R160: a byte below its field's highest is staged. -/
theorem State.writeAt_staged {s : State} {i : Index} {f : Field} {o : Nat} (h : fieldAt i = some (f, o))
    (hr : f.readOnly = false) (hb : s.bootInProgress = false) (ho : o + 1 < f.width) (b : Byte) :
    s.writeAt i b = s.withLink { s.link with staging := (i, b) :: s.link.staging } := by
  unfold State.writeAt
  rw [h]
  simp only [hr, hb, ho, Bool.false_eq_true, if_false, Bool.false_and, if_true]

/-- R160: a byte of a field of one byte, taken during a boot load too, hands its value to the field's owner. -/
theorem State.writeAt_single {s : State} {i : Index} {f : Field} (h : fieldAt i = some (f, 0)) (hr : f.readOnly = false)
    (hb : s.bootInProgress = false ∨ f.openInBoot = true) (hw : f.width = 1) (b : Byte) :
    s.quiet.writeAt i b = s.committing.commit f b.toNat := by
  have hvalue : s.quiet.composed f (i - BitVec.ofNat 16 0) ((i, b) :: s.link.staging) = b.toNat :=
    s.quiet.composed_one f hw i b _
  have hboot : (s.quiet.bootInProgress && !f.openInBoot) = false := by
    rcases hb with hb | hb
    · rw [show s.quiet.bootInProgress = false from hb]; rfl
    · rw [hb]; simp
  unfold State.writeAt
  rw [h]
  simp only [hr, hboot, hw, Bool.false_eq_true, if_false, zero_add, lt_irrefl]
  exact congrArg _ hvalue

/-- The rows that clear a flag are those of the byte 0. -/
theorem commitRow_clears {f : Field} {b : Byte}
    (h : commitRow f b = .overrunFlagClear ∨ commitRow f b = .writeRefusedFlagClear) : b = 0 := by
  by_contra hb
  cases f with
  | overrun => rw [commitRow, if_neg hb] at h; simp at h
  | writeRefused => rw [commitRow, if_neg hb] at h; simp at h
  | _ => simp [commitRow] at h

/-- The command that carries a data byte as its row hands the byte to that row. -/
theorem exec_dataByteRow (s : State) (i : Index) (b : Byte) (h : byteRow i b ≠ .command) :
    exec (dataByteRow i b) s = .next (s.quiet.byteAs (byteRow i b) b) := by
  unfold dataByteRow
  have hclear (hr : byteRow i b = .overrunFlagClear ∨ byteRow i b = .writeRefusedFlagClear) : b = 0 := by
    unfold byteRow at hr
    cases hf : fieldAt i with
    | none => simp [hf] at hr
    | some p =>
      simp only [hf] at hr
      split at hr
      · simp at hr
      · exact commitRow_clears hr
  cases hr : byteRow i b with
  | command => exact absurd hr h
  | overrunFlagClear => rw [hclear (.inl hr)]; rfl
  | writeRefusedFlagClear => rw [hclear (.inr hr)]; rfl
  | fieldWrite | windowConfigWrite | groupConfigWrite | holdWrite | closeDelayWrite | limitWrite | eventMaskWrite => rfl

/-- Only the command code's byte is a command. -/
theorem byteRow_ne_command {i : Index} {f : Field} {o : Nat} (h : fieldAt i = some (f, o)) (hf : f ≠ .code) (b : Byte) :
    byteRow i b ≠ .command := by
  rw [byteRow_of_field h]
  split
  · decide
  · cases f <;> simp_all [commitRow] <;> split <;> decide

/-- Settles O49: the byte by the place of its index, and by the boot load. -/
theorem fieldBytesAreStagedTakenOrRefused : Obligations.FieldBytesAreStagedTakenOrRefused := by
  intro s i b hframe q refused
  obtain ⟨-, hoverrun, hrefused, hargument⟩ := fieldAt_flags
  have hrefuse {f : Field} {o : Nat} {row : ByteRow} (h : fieldAt i = some (f, o)) (hrow : byteRow i b = row)
      (hno : f.readOnly = true ∨ s.bootInProgress = true ∧ f.openInBoot = false) : s.quiet.byteAs row b = refused := by
    rw [State.byteAs_of_row hframe hrow, State.writeAt_refused (s := s.quiet) h hno]
    rfl
  have hflag {f : Field} (h : fieldAt i = some (f, 0)) (hf : f = .overrun ∨ f = .writeRefused) (hb : b ≠ 0)
      (hopen : s.bootInProgress = false ∨ f = .writeRefused) : exec (.fieldWrite b) s =
        .next (s.quiet.withLink { s.link with frame := .write (i + 1), writeRefused := true, staging := [] }) := by
    have hne : b.toNat ≠ 0 := fun h0 => hb (BitVec.eq_of_toNat_eq h0)
    have hrow : byteRow i b = .fieldWrite := by
      rw [byteRow_of_field h]
      rcases hf with rfl | rfl <;> exact if_neg hb
    rw [exec_fieldWrite, State.byteAs_of_row hframe hrow]
    rcases hf with rfl | rfl
    · rw [State.writeAt_single h rfl (.inl (hopen.resolve_right (by decide))) rfl, State.commit, if_neg hne]
      rfl
    · rw [State.writeAt_single h rfl (.inr rfl) rfl, State.commit, if_neg hne]
      rfl
  refine ⟨fun h => ?_, fun h => ?_, fun f o h hr => ?_, fun f o hboot h hr ho => ?_, fun h hb hboot => ?_,
    fun h hb hboot => ?_, fun f o hboot h h1 h2 h3 => ?_⟩
  · have hwrite : s.quiet.writeAt i b = s.quiet := by
      unfold State.writeAt
      rw [h]
    rw [exec_fieldWrite, State.byteAs_of_row hframe (by rw [byteRow, h]), hwrite]
    rfl
  · subst h
    rw [exec_fieldWrite, State.byteAs_of_row hframe (by rw [byteRow_of_field hargument]; rfl),
      State.writeAt_single hargument rfl (.inr rfl) rfl, State.commit, ofNat_toNat_self]
    rfl
  · have hrow : byteRow i b = .fieldWrite := by
      rw [byteRow_of_field h, Field.commitRow_of_readOnly hr, ite_self]
    rw [exec_fieldWrite, hrefuse h hrow (.inl hr)]
  · have hrow : byteRow i b = .fieldWrite := by
      rw [byteRow_of_field h, if_pos ho]
    rw [exec_fieldWrite, State.byteAs_of_row hframe hrow, State.writeAt_staged (s := s.quiet) h hr hboot ho]
    rfl
  · rcases h with rfl | rfl
    · exact hflag hrefused (.inr rfl) hb (.inl hboot)
    · exact hflag hoverrun (.inl rfl) hb (.inl hboot)
  · subst h
    exact hflag hrefused (.inr rfl) hb (.inr rfl)
  · have hopen : f.openInBoot = false := by
      cases f <;> simp_all [Field.openInBoot]
    rw [exec_dataByteRow s i b (byteRow_ne_command h h2 b), hrefuse h rfl (.inr ⟨hboot, hopen⟩)]

end Sys2Proof.Machine
end

section
/-! What every operation keeps of the bounds of the tables (R34, R145, R116, R37, R163, R135, R31, R107, R157), as one relation
between the state before and after it: the updates of a block and of a record. -/

namespace Sys2Proof.Machine

open Sys2Proof

/-! ## The relation -/

/-- One state has every bound of the tables that another has. -/
structure State.Keeps (s t : State) : Prop where
  counts : s.countsExact → t.countsExact
  events : s.events.consistent → t.events.consistent
  locks : s.locksDistinct → t.locksDistinct
  demand : s.demandBounded → t.demandBounded
  limits : s.link.limitsPositive → t.link.limitsPositive
  share : s.shareBounded → t.shareBounded
  sets : s.setsAscending → t.setsAscending
  holds : s.holdsCounted → t.holdsCounted
  serial : s.link.serialConsistent → t.link.serialConsistent

theorem State.Keeps.refl (s : State) : s.Keeps s := ⟨id, id, id, id, id, id, id, id, id⟩

theorem State.Keeps.trans {s t u : State} (h : s.Keeps t) (k : t.Keeps u) : s.Keeps u :=
  ⟨k.counts ∘ h.counts, k.events ∘ h.events, k.locks ∘ h.locks, k.demand ∘ h.demand, k.limits ∘ h.limits,
    k.share ∘ h.share, k.sets ∘ h.sets, k.holds ∘ h.holds, k.serial ∘ h.serial⟩

/-- A walk whose every step keeps the bounds keeps them. -/
theorem State.Keeps.foldl {α : Type} {f : State → α → State} (hf : ∀ s a, State.Keeps s (f s a)) (l : List α) (s : State) :
    s.Keeps (l.foldl f s) :=
  foldl_keeps s.Keeps f (fun a b h => h.trans (hf a b)) l s (.refl s)

/-! ## Replacing a block that no bound reads -/

theorem State.withGroups_keeps (s : State) (x : Vector Group 4) : s.Keeps (s.withGroups x) :=
  ⟨id, id, id, id, id, id, id, id, id⟩
theorem State.withTiming_keeps (s : State) (x : EpochTiming) : s.Keeps (s.withTiming x) :=
  ⟨id, id, id, id, id, id, id, id, id⟩
theorem State.withStartUp_keeps (s : State) (x : StartUp) : s.Keeps (s.withStartUp x) :=
  ⟨id, id, id, id, id, id, id, id, id⟩
theorem State.withPins_keeps (s : State) (x : Pins) : s.Keeps (s.withPins x) :=
  ⟨id, id, id, id, id, id, id, id, id⟩
theorem State.withFreeUses_keeps (s : State) (x : Nat) : s.Keeps (s.withFreeUses x) :=
  ⟨id, id, id, id, id, id, id, id, id⟩
theorem State.withPending_keeps (s : State) (x : List Instr) : s.Keeps (s.withPending x) :=
  ⟨id, id, id, id, id, id, id, id, id⟩
theorem State.quiet_keeps (s : State) : s.Keeps s.quiet := ⟨id, id, id, id, id, id, id, id, id⟩
theorem State.offer_keeps (s : State) (r : Request) : s.Keeps (s.offer r) := ⟨id, id, id, id, id, id, id, id, id⟩
theorem State.respond_keeps (s : State) (r : Request) (st : Status) (data : List Beat) : s.Keeps (s.respond r st data) :=
  ⟨id, id, id, id, id, id, id, id, id⟩
theorem State.setGroup_keeps (s : State) (g : GroupId) (x : Group) : s.Keeps (s.setGroup g x) := s.withGroups_keeps _
theorem State.setSource_keeps (s : State) (e : SourceId) (x : Source) : s.Keeps (s.setSource e x) := s.withTiming_keeps _

/-- The acceptance number and the requests that stand offered are read by no bound. -/
theorem State.withPort_keeps (s : State) {x : SystemPort} (h : x.slots = s.port.slots) : s.Keeps (s.withPort x) := by
  have hslots : (s.withPort x).port.slots = s.port.slots := h
  refine ⟨fun hc w b => ?_, id, id, id, id, id, id, fun hh => ?_, id⟩
  · simp only [State.countedReads, hslots]
    exact hc w b
  · simp only [State.holdsCounted, hslots]
    exact hh

/-! ## Replacing a block that one bound reads -/

theorem State.withEvents_keeps (s : State) {x : EventQueue} (h : s.events.consistent → x.consistent) :
    s.Keeps (s.withEvents x) := ⟨id, h, id, id, id, id, id, id, id⟩

theorem State.withMem_keeps (s : State) {x : MemoryPort} (h : s.mem.share ≤ Config.shareLimit → x.share ≤ Config.shareLimit) :
    s.Keeps (s.withMem x) := ⟨id, id, id, id, id, h, id, id, id⟩

theorem State.setMemSlot_keeps (s : State) (k : Fin 12) (x : MemSlot) : s.Keeps (s.setMemSlot k x) :=
  s.withMem_keeps id

/-- R37: the demand queue changes; the copiers are read by no bound. -/
theorem State.withCarry_keeps (s : State) {x : CarryEngine} (h : s.demandBounded →
    x.demand.length ≤ Config.demandCapacity ∧ x.demand.Nodup) : s.Keeps (s.withCarry x) :=
  ⟨id, id, id, h, id, id, id, id, id⟩

theorem State.setCopier_keeps (s : State) (c : Fin 2) (x : Copier) : s.Keeps (s.setCopier c x) :=
  s.withCarry_keeps id

/-- R37: entries that leave the queue. -/
theorem State.filterDemand_keeps (s : State) {x : CarryEngine} {p : DemandEntry → Bool} (h : x.demand = s.carry.demand.filter p) :
    s.Keeps (s.withCarry x) :=
  s.withCarry_keeps fun ⟨hlength, hnodup⟩ => h ▸ ⟨(List.length_filter_le _ _).trans hlength, hnodup.filter _⟩

theorem State.withLink_keeps (s : State) {x : Link} (hlimits : s.link.limitsPositive → x.limitsPositive)
    (hserial : s.link.serialConsistent → x.serialConsistent) : s.Keeps (s.withLink x) :=
  ⟨id, id, id, id, hlimits, id, id, id, hserial⟩

/-- R116: a lock table whose entries stay on their lines. -/
theorem State.withLocks_keeps (s : State) {x : Vector (Option Lock) 4}
    (h : ∀ j : Fin 4, ∀ a ∈ x[j], ∃ b ∈ s.locks[j], b.line = a.line) : s.Keeps (s.withLocks x) := by
  refine ⟨id, id, fun hd i j a ha b hb hab => ?_, id, id, id, id, id, id⟩
  obtain ⟨a', ha', hline⟩ := h i a ha
  obtain ⟨b', hb', hline'⟩ := h j b hb
  exact hd i j a' ha' b' hb' (hline.trans (hab.trans hline'.symm))

/-- The windows change, but no live-read count; their sets stay ascending. -/
theorem State.withWindows_keeps (s : State) {x : Vector Window 16}
    (hcounts : ∀ w : WindowId, ∀ b : Bank, x[w].liveReads b = s.windows[w].liveReads b)
    (hsets : ∀ w : WindowId, LineSet.ascending s.windows[w].dirty ∧ LineSet.ascending s.windows[w].carry →
      LineSet.ascending x[w].dirty ∧ LineSet.ascending x[w].carry) : s.Keeps (s.withWindows x) :=
  ⟨fun h w b => (hcounts w b).trans (h w b), id, id, id, id, id, fun h w => hsets w (h w), id, id⟩

theorem State.setWindow_keeps (s : State) {w : WindowId} {x : Window} (h0 : x.liveReads0 = s.windows[w].liveReads0)
    (h1 : x.liveReads1 = s.windows[w].liveReads1)
    (hsets : LineSet.ascending s.windows[w].dirty ∧ LineSet.ascending s.windows[w].carry →
      LineSet.ascending x.dirty ∧ LineSet.ascending x.carry) : s.Keeps (s.setWindow w x) := by
  have hcounts (b : Bank) : x.liveReads b = s.windows[w].liveReads b := by
    cases b
    · exact h0
    · exact h1
  refine s.withWindows_keeps (fun v b => ?_) fun v => ?_ <;> rw [vector_set_apply] <;> split
  · subst_vars; exact hcounts b
  · rfl
  · subst_vars; exact hsets
  · exact id

/-! ## Transfers of the table -/

/-- R34: the bank in whose count a transfer is, if any. -/
def Transfer.countedIn (t : Transfer) (w : WindowId) (b : Bank) : Bool :=
  decide (t.window = some w) && decide (t.countedBank = some b)

/-- R34: whether the transfer in a slot is in the count of a bank. -/
def countedSlot (x : Option Transfer) (w : WindowId) (b : Bank) : Bool :=
  x.any fun t => t.countedIn w b

theorem State.countedReads_eq (s : State) (w : WindowId) (b : Bank) :
    s.countedReads w b = (places 8).countP fun i => countedSlot s.port.slots[i] w b := by
  rw [State.countedReads, List.countP_eq_length_filter]
  congr 2
  funext i
  cases s.port.slots[i] <;> rfl

/-- A count over places of which one changes. -/
theorem countP_change {α : Type} {l : List α} (hl : l.Nodup) {i : α} (hi : i ∈ l) {p q : α → Bool}
    (hne : ∀ j, j ≠ i → p j = q j) : l.countP p + (q i).toNat = l.countP q + (p i).toNat := by
  induction l with
  | nil => cases hi
  | cons a l ih =>
    obtain ⟨ha, hl⟩ := List.nodup_cons.1 hl
    simp only [List.countP_cons]
    by_cases hai : a = i
    · subst hai
      have hrest : l.countP p = l.countP q := List.countP_congr fun j hj => by rw [hne j fun h => ha (h ▸ hj)]
      rw [hrest]
      cases p a <;> cases q a <;> simp
    · have hil : i ∈ l := (List.mem_cons.1 hi).resolve_left fun h => hai h.symm
      have := ih hl hil
      rw [hne a hai]
      omega

/-- R34: how a change of one slot changes the number of counted transfers. -/
theorem State.setSlot_countedReads (s : State) (i : Fin 8) (x : Option Transfer) (w : WindowId) (b : Bank) :
    (s.setSlot i x).countedReads w b + (countedSlot s.port.slots[i] w b).toNat =
      s.countedReads w b + (countedSlot x w b).toNat := by
  simp only [State.countedReads_eq, State.setSlot_slots, vector_set_apply]
  have h := countP_change (p := fun j => countedSlot (if i = j then x else s.port.slots[j]) w b)
    (q := fun j => countedSlot s.port.slots[j] w b) ((places_sorted 8).imp ne_of_lt) (mem_places i)
    (fun j hj => by rw [if_neg fun h => hj h.symm])
  simpa using h

/-- R107: what the bound of the hold counts asks of one transfer. -/
def Transfer.holdCounted (t : Transfer) : Prop :=
  (t.phase = .waiting → t.hold.isSome = true) ∧ ∀ h ∈ t.hold, h.count ≤ h.limit

/-- The table changes, but no transfer enters or leaves a count, and hold counts stay within their limits. -/
theorem State.withSlots_keeps (s : State) {x : SystemPort}
    (hcounts : ∀ i : Fin 8, ∀ w b, countedSlot x.slots[i] w b = countedSlot s.port.slots[i] w b)
    (hholds : ∀ i : Fin 8, (∀ t ∈ s.port.slots[i], t.holdCounted) → ∀ t ∈ x.slots[i], t.holdCounted) :
    s.Keeps (s.withPort x) := by
  refine ⟨fun hc w b => ?_, id, id, id, id, id, id, fun hh i => hholds i (hh i), id⟩
  have heq : (s.withPort x).countedReads w b = s.countedReads w b := by
    simp only [State.countedReads_eq, State.withPort_port, hcounts]
  exact (hc w b).trans heq.symm

/-- A transfer of the table changes, but stays in the count it is in. -/
theorem State.setSlot_keeps (s : State) {i : Fin 8} {t u : Transfer} (ht : s.port.slots[i] = some t)
    (hwindow : u.window = t.window) (hbank : u.countedBank = t.countedBank)
    (hhold : t.holdCounted → u.holdCounted) : s.Keeps (s.setSlot i (some u)) := by
  refine s.withSlots_keeps (fun j w b => ?_) fun j hj v hv => ?_
  · rw [vector_set_apply]
    split
    · subst_vars
      rw [ht]
      show u.countedIn w b = t.countedIn w b
      rw [Transfer.countedIn, Transfer.countedIn, hwindow, hbank]
    · rfl
  · rw [vector_set_apply] at hv
    split at hv
    · subst_vars
      obtain rfl : u = v := by simpa using hv
      exact hhold (hj t ht)
    · exact hj v hv

/-! ## The live-read counts (R34) -/

theorem Window.liveReads_withLiveReads (x : Window) (b c : Bank) (n : Nat) :
    (x.withLiveReads b n).liveReads c = if b = c then n else x.liveReads c := by
  cases b <;> cases c <;> rfl

theorem Window.withLiveReads_sets (x : Window) (b : Bank) (n : Nat) :
    (x.withLiveReads b n).dirty = x.dirty ∧ (x.withLiveReads b n).carry = x.carry := by
  cases b <;> exact ⟨rfl, rfl⟩

/-- R34: what leaving a count does to each count. -/
theorem State.uncount_liveReads (s : State) (t : Transfer) (w : WindowId) (b : Bank) :
    (s.uncount t).windows[w].liveReads b = s.windows[w].liveReads b - (t.countedIn w b).toNat := by
  unfold State.uncount Transfer.countedIn
  cases t.window with
  | none => simp
  | some v =>
    cases t.countedBank with
    | none => simp
    | some c =>
      simp only [State.setWindow_windows, vector_set_apply, Option.some.injEq]
      by_cases hvw : v = w
      · subst hvw
        rw [if_pos rfl, Window.liveReads_withLiveReads]
        by_cases hcb : c = b
        · subst hcb; simp
        · simp [hcb]
      · simp [hvw]

/-- R34: what entering a count does to each count. -/
theorem State.countRead_liveReads (s : State) (t : Transfer) (w : WindowId) (b : Bank) :
    (s.countRead t).windows[w].liveReads b = s.windows[w].liveReads b + (t.countedIn w b).toNat := by
  unfold State.countRead Transfer.countedIn
  cases t.window with
  | none => simp
  | some v =>
    cases t.countedBank with
    | none => simp
    | some c =>
      simp only [State.setWindow_windows, vector_set_apply, Option.some.injEq]
      by_cases hvw : v = w
      · subst hvw
        rw [if_pos rfl, Window.liveReads_withLiveReads]
        by_cases hcb : c = b
        · subst hcb; simp
        · simp [hcb]
      · simp [hvw]

/-- Neither entering nor leaving a count touches anything else of a window. -/
theorem State.uncount_sets (s : State) (t : Transfer) (w : WindowId) :
    (s.uncount t).windows[w].dirty = s.windows[w].dirty ∧ (s.uncount t).windows[w].carry = s.windows[w].carry := by
  unfold State.uncount
  split
  · rw [State.setWindow_windows, vector_set_apply]
    split
    · subst_vars; exact Window.withLiveReads_sets _ _ _
    · exact ⟨rfl, rfl⟩
  · exact ⟨rfl, rfl⟩

theorem State.countRead_sets (s : State) (t : Transfer) (w : WindowId) :
    (s.countRead t).windows[w].dirty = s.windows[w].dirty ∧ (s.countRead t).windows[w].carry = s.windows[w].carry := by
  unfold State.countRead
  split
  · rw [State.setWindow_windows, vector_set_apply]
    split
    · subst_vars; exact Window.withLiveReads_sets _ _ _
    · exact ⟨rfl, rfl⟩
  · exact ⟨rfl, rfl⟩

end Sys2Proof.Machine
end

section
/-! What every operation keeps of the bounds of the tables: the shared operations, acceptance, the window unit and the carry
engine, the boot load and the memory port. -/

namespace Sys2Proof.Machine

open Sys2Proof

/-! ## Records, arming, answers -/

theorem State.record_keeps (s : State) (r : EventRecord) : s.Keeps (s.record r) :=
  s.withEvents_keeps (s.events.append_consistent r)

theorem State.recordAll_keeps (s : State) (r : Option EventRecord) : s.Keeps (s.recordAll r) := by
  cases r with
  | none => exact .refl s
  | some r => exact s.record_keeps r

theorem State.arm_keeps (s : State) (g : GroupId) (m : Option MasterId) : s.Keeps (s.arm g m) := by
  unfold State.arm
  split
  · exact s.setGroup_keeps g _
  · exact .refl s
  · exact s.record_keeps _

theorem State.armByAnswer_keeps (s : State) (t : Transfer) (st : Status) : s.Keeps (s.armByAnswer t st) := by
  unfold State.armByAnswer
  split
  · exact s.arm_keeps _ _
  · exact .refl s

theorem State.settleLock_keeps (s : State) (r : Request) (st : Status) : s.Keeps (s.settleLock r st) := by
  have hlock (j : Fin 4) : ∀ a ∈ (s.settleLock r st).locks[j], ∃ b ∈ s.locks[j], b.line = a.line := by
    intro a ha
    rw [State.settleLock_lock] at ha
    cases hl : s.locks[j] with
    | none => rw [hl] at ha; cases ha
    | some l =>
      rw [hl] at ha
      refine ⟨l, rfl, ?_⟩
      simp only [Lock.afterRequest] at ha
      split at ha
      · unfold Lock.settled at ha
        split at ha
        · cases ha; rfl
        · cases ha
      · cases ha; rfl
  rw [State.settleLock_eq_withLocks]
  exact s.withLocks_keeps hlock

theorem State.answerNow_keeps (s : State) (r : Request) (st : Status) : s.Keeps (s.answerNow r st) :=
  (s.respond_keeps r st []).trans (State.settleLock_keeps _ r st)

/-- R34: a transfer that leaves the table leaves the count it is in. -/
theorem State.endTransfer_keeps (s : State) {i : Fin 8} {t : Transfer} (ht : s.port.slots[i] = some t) :
    s.Keeps ((s.setSlot i none).uncount t) := by
  have hslots : ((s.setSlot i none).uncount t).port = (s.setSlot i none).port := by simp
  have hsame : ((s.setSlot i none).uncount t).countedReads = (s.setSlot i none).countedReads := by
    funext w b
    simp only [State.countedReads, hslots]
  refine ⟨fun hc w b => ?_, by simp, ?_, ?_, by simp, ?_, fun h w => ?_, fun hh j u hu => ?_, by simp⟩
  · rw [State.uncount_liveReads, hsame]
    have hchange := s.setSlot_countedReads i none w b
    have hslot : countedSlot s.port.slots[i] w b = t.countedIn w b := by rw [ht]; rfl
    have hnone : countedSlot none w b = false := rfl
    have hcw := hc w b
    rw [hslot, hnone, Bool.toNat_false] at hchange
    simp only [State.setSlot_windows]
    omega
  · have hl : ((s.setSlot i none).uncount t).locks = s.locks := by simp
    simp only [State.locksDistinct, hl]
    exact id
  · have hcarry : ((s.setSlot i none).uncount t).carry = s.carry := by simp
    simp only [State.demandBounded, hcarry]
    exact id
  · have hm : ((s.setSlot i none).uncount t).mem = s.mem := by simp
    simp only [State.shareBounded, hm]
    exact id
  · obtain ⟨hd, hca⟩ := (s.setSlot i none).uncount_sets t w
    rw [hd, hca]
    exact h w
  · rw [hslots, State.setSlot_slots, vector_set_apply] at hu
    split at hu
    · cases hu
    · exact hh j u hu

theorem State.answer_keeps (s : State) (i : Fin 8) (st : Status) (data : List Beat) : s.Keeps (s.answer i st data) := by
  unfold State.answer
  split
  · exact .refl s
  · rename_i t ht
    have hcomm : (((s.setSlot i none).respond t.request st data).uncount t) =
        ((s.setSlot i none).uncount t).respond t.request st data := by
      unfold State.uncount
      split <;> rfl
    rw [hcomm]
    exact (((s.endTransfer_keeps ht).trans (State.respond_keeps _ _ _ _)).trans (State.settleLock_keeps _ _ _)).trans
      (State.armByAnswer_keeps _ _ _)

/-! ## The test of transfers -/

theorem State.makeEntry_keeps (s : State) (t : Transfer) : s.Keeps (s.makeEntry t) := by
  unfold State.makeEntry
  split
  · exact .refl s
  · rename_i d hd
    split
    · exact .refl s
    · rename_i hfull
      refine s.withCarry_keeps fun hb => ?_
      have hbounded := s.makeEntry_bounded t hb
      unfold State.makeEntry at hbounded
      rw [hd] at hbounded
      simp only [if_neg hfull] at hbounded
      exact hbounded

theorem State.makeEntries_keeps (s : State) : s.Keeps s.makeEntries := by
  refine State.Keeps.foldl (fun a i => ?_) _ s
  split
  · exact .refl a
  · split
    · exact a.makeEntry_keeps _
    · exact .refl a

theorem State.testedTransfer_holdCounted (s : State) {t : Transfer} (h : t.holdCounted) :
    (s.testedTransfer t).holdCounted := by
  obtain ⟨hwait, hcount⟩ := h
  unfold State.testedTransfer
  split
  · split
    · exact ⟨fun hp => absurd hp (by simp), hcount⟩
    · refine ⟨fun _ => rfl, fun x hx => ?_⟩
      obtain rfl : t.hold.getD { count := 0, limit := s.link.holdLimit.toNat } = x := by simpa using hx
      cases hh : t.hold with
      | none => exact Nat.zero_le _
      | some y => exact hcount y (by simp [hh])
  · exact ⟨hwait, hcount⟩

theorem State.testPhases_keeps (s : State) : s.Keeps s.testPhases := by
  refine s.withSlots_keeps (fun i w b => ?_) fun i h u hu => ?_
  · rw [mapTable_getElem_fin]
    cases s.port.slots[i] with
    | none => rfl
    | some t =>
      show (s.testedTransfer t).countedIn w b = t.countedIn w b
      rw [(s.testedTransfer_retestedAs t).1]
      rfl
  · rw [mapTable_getElem_fin] at hu
    obtain ⟨t, ht, rfl⟩ := Option.map_eq_some_iff.1 hu
    exact s.testedTransfer_holdCounted (h t ht)

theorem State.retest_keeps (s : State) : s.Keeps s.retest :=
  s.makeEntries_keeps.trans (State.testPhases_keeps _)

/-! ## Acceptance -/

/-- A transfer as routing keeps it: fresh, with the request and number it was routed with. -/
def Transfer.freshFor (t : Transfer) (r : Request) (n : Nat) : Prop :=
  t.request = r ∧ t.acceptance = n ∧ t.phase = .ready ∧ t.hold = none ∧ t.first = .absent ∧ t.shadow = .absent

theorem keptTransfer_freshFor (r : Request) (n : Nat) (w : Option WindowId) (role : Option Role) (route : Route)
    (a : Option Address) : (keptTransfer r n w role route a).freshFor r n := ⟨rfl, rfl, rfl, rfl, rfl, rfl⟩

theorem State.routeTwoBanks_fresh {s : State} {r : Request} {n : Nat} {w : WindowId} {t : Transfer}
    (h : s.routeTwoBanks r n w = .keep t) : t.freshFor r n := by
  unfold State.routeTwoBanks at h
  split at h
  · unfold State.routeConsumerRead at h
    split at h <;> cases h
    exact ⟨rfl, rfl, rfl, rfl, rfl, rfl⟩
  · unfold State.routeConsumerWrite at h
    split at h <;> cases h
    exact ⟨rfl, rfl, rfl, rfl, rfl, rfl⟩
  · unfold State.routeProducerRead at h
    split at h <;> cases h <;> exact ⟨rfl, rfl, rfl, rfl, rfl, rfl⟩
  · unfold State.routeProducerWrite at h
    dsimp only at h
    split at h <;> cases h
    exact ⟨rfl, rfl, rfl, rfl, rfl, rfl⟩

theorem State.routing_fresh {s : State} {r : Request} {n : Nat} {t : Transfer} (h : s.routing r n = .keep t) :
    t.freshFor r n := by
  unfold State.routing at h
  split at h
  · unfold State.routeHome at h
    split at h
    · cases h; exact keptTransfer_freshFor r n _ _ _ _
    · exact State.routeTwoBanks_fresh h
    · exact State.routeTwoBanks_fresh h
    · split at h <;> cases h; exact keptTransfer_freshFor r n _ _ _ _
    · cases h; exact keptTransfer_freshFor r n _ _ _ _
    · split at h <;> cases h; exact keptTransfer_freshFor r n _ _ _ _
  · cases h; exact keptTransfer_freshFor r n _ _ _ _
  · cases h; exact keptTransfer_freshFor r n _ _ _ _

/-- R34: a transfer that enters the table enters the count it is counted in. -/
theorem State.beginTransfer_keeps (s : State) {i : Fin 8} {t : Transfer} (hfree : s.port.slots[i] = none)
    (hhold : t.holdCounted) : s.Keeps ((s.setSlot i (some t)).countRead t) := by
  have hslots : ((s.setSlot i (some t)).countRead t).port = (s.setSlot i (some t)).port := by simp
  have hsame : ((s.setSlot i (some t)).countRead t).countedReads = (s.setSlot i (some t)).countedReads := by
    funext w b
    simp only [State.countedReads, hslots]
  refine ⟨fun hc w b => ?_, by simp, ?_, ?_, by simp, ?_, fun h w => ?_, fun hh j u hu => ?_, by simp⟩
  · rw [State.countRead_liveReads, hsame]
    have hchange := s.setSlot_countedReads i (some t) w b
    have hslot : countedSlot s.port.slots[i] w b = false := by rw [hfree]; rfl
    have hsome : countedSlot (some t) w b = t.countedIn w b := rfl
    have hcw := hc w b
    rw [hslot, hsome, Bool.toNat_false] at hchange
    simp only [State.setSlot_windows]
    omega
  · have hl : ((s.setSlot i (some t)).countRead t).locks = s.locks := by simp
    simp only [State.locksDistinct, hl]
    exact id
  · have hcarry : ((s.setSlot i (some t)).countRead t).carry = s.carry := by simp
    simp only [State.demandBounded, hcarry]
    exact id
  · have hm : ((s.setSlot i (some t)).countRead t).mem = s.mem := by simp
    simp only [State.shareBounded, hm]
    exact id
  · obtain ⟨hd, hca⟩ := (s.setSlot i (some t)).countRead_sets t w
    rw [hd, hca]
    exact h w
  · rw [hslots, State.setSlot_slots, vector_set_apply] at hu
    split at hu
    · cases hu; exact hhold
    · exact hh j u hu

/-- R117: no entry covers a line on which none is found. -/
theorem State.lockOn_none {s : State} {a : Address} :
    s.lockOn a = none ↔ ∀ j : Fin 4, ∀ l ∈ s.locks[j], l.line ≠ lineOfAddress a := by
  rw [State.lockOn, placesWhere_head_none]
  refine forall_congr' fun j => ?_
  cases s.locks[j] with
  | none => simp
  | some l => simp

theorem State.freeLock_some {s : State} {j : Fin 4} :
    s.freeLock = some j ↔ s.locks[j] = none ∧ ∀ k : Fin 4, k < j → s.locks[k] ≠ none := by
  rw [State.freeLock, placesWhere_head_some]
  simp [-Fin.getElem_fin]

theorem State.freeLock_none {s : State} : s.freeLock = none ↔ ∀ j : Fin 4, s.locks[j] ≠ none := by
  rw [State.freeLock, placesWhere_head_none]
  simp [-Fin.getElem_fin]

/-- R116: an entry on a line that no entry covers. -/
theorem State.setLock_keeps_of_new (s : State) {j : Fin 4} {l : Lock}
    (h : ∀ k : Fin 4, ∀ m ∈ s.locks[k], m.line ≠ l.line) : s.Keeps (s.setLock j (some l)) := by
  refine ⟨id, id, fun hd i k a ha b hb hab => ?_, id, id, id, id, id, id⟩
  rw [State.setLock_locks, vector_set_apply] at ha hb
  split at ha <;> split at hb
  · subst_vars; rfl
  · cases ha; exact absurd hab.symm (h k b hb)
  · cases hb; exact absurd hab (h i a ha)
  · exact hd i k a ha b hb hab

theorem State.takeLock_keeps (s : State) (r : Request) : s.Keeps (s.takeLock r) := by
  unfold State.takeLock
  split
  · rename_i h
    have hnone : s.lockOn r.address = none := by
      rw [Bool.and_eq_true] at h
      simpa using h.2
    split
    · exact .refl s
    · exact s.setLock_keeps_of_new (State.lockOn_none.1 hnone)
  · exact .refl s

theorem State.finishRouting_keeps (s : State) {i : Fin 8} (hfree : s.port.slots[i] = none) {r : Request} {n : Nat}
    {result : Routing} (hresult : ∀ t, result = .keep t → t.freshFor r n) : s.Keeps (s.finishRouting i r result) := by
  unfold State.finishRouting
  split
  · exact (s.recordAll_keeps _).trans (State.answerNow_keeps _ _ _)
  · rename_i t
    obtain ⟨-, -, hphase, hhold, -, -⟩ := hresult t rfl
    have hcounted : t.holdCounted := ⟨fun h => absurd (hphase.symm.trans h) (by decide), by simp [hhold]⟩
    exact ((s.beginTransfer_keeps hfree hcounted).trans (State.takeLock_keeps _ _)).trans (State.retest_keeps _)

theorem State.interlockAndRoute_keeps (s : State) {i : Fin 8} (hfree : s.port.slots[i] = none) (r : Request) (n : Nat) :
    s.Keeps (s.interlockAndRoute i r n) := by
  have hfresh (t : Transfer) (h : s.routing r n = .keep t) : t.freshFor r n := State.routing_fresh h
  unfold State.interlockAndRoute
  split
  · exact s.respond_keeps _ _ _
  · exact (s.record_keeps _).trans (State.respond_keeps _ _ _ _)
  · exact s.finishRouting_keeps hfree hfresh
  · rename_i j l hclaims
    obtain ⟨hl, -, -, -, -⟩ := State.lockTest_claims hclaims
    refine .trans (s.withLocks_keeps (x := s.locks.set j (some { l with claim := some r.tag })) fun k a ha => ?_)
      (State.finishRouting_keeps (s.setLock j (some { l with claim := some r.tag })) hfree hfresh)
    rw [vector_set_apply] at ha
    split at ha
    · subst_vars
      cases ha
      exact ⟨l, hl, rfl⟩
    · exact ⟨a, ha, rfl⟩

theorem State.checkRequest_keeps (s : State) {i : Fin 8} (hfree : s.port.slots[i] = none) (r : Request) (n : Nat) :
    s.Keeps (s.checkRequest i r n) := by
  unfold State.checkRequest
  repeat' split
  · exact s.respond_keeps _ _ _
  · exact s.respond_keeps _ _ _
  · exact (s.record_keeps _).trans (State.respond_keeps _ _ _ _)
  · exact (s.record_keeps _).trans (State.respond_keeps _ _ _ _)
  · exact s.interlockAndRoute_keeps hfree r n
  · exact s.interlockAndRoute_keeps hfree r n

/-- R97, R113: what is accepted next. -/
theorem State.nextAccepted_some {s : State} {i : Fin 8} {r : Request} {rest : List Request} :
    s.nextAccepted = some (i, r, rest) ↔
      s.resetHeld = false ∧ s.port.offered = r :: rest ∧ s.port.slots[i] = none ∧
        ∀ j : Fin 8, j < i → s.port.slots[j] ≠ none := by
  have hslot : s.freeSlot = some i ↔ s.port.slots[i] = none ∧ ∀ j : Fin 8, j < i → s.port.slots[j] ≠ none := by
    rw [State.freeSlot, placesWhere_head_some]
    simp [-Fin.getElem_fin]
  rw [← hslot]
  unfold State.nextAccepted
  cases s.resetHeld <;> cases s.port.offered <;> cases s.freeSlot <;> simp
  tauto

theorem State.accept_keeps (s : State) {i : Fin 8} (hfree : s.port.slots[i] = none) (r : Request) :
    s.Keeps (s.accept i r) :=
  (s.withPort_keeps (x := { s.port with nextAcceptance := s.port.nextAcceptance + 1 }) rfl).trans
    (State.checkRequest_keeps (s.withPort { s.port with nextAcceptance := s.port.nextAcceptance + 1 }) hfree r _)

theorem State.acceptUpTo_keeps (n : Nat) (s : State) : s.Keeps (State.acceptUpTo n s) := by
  induction n generalizing s with
  | zero => exact .refl s
  | succ n ih =>
    unfold State.acceptUpTo
    split
    · exact .refl s
    · rename_i i r rest h
      obtain ⟨-, -, hfree, -⟩ := State.nextAccepted_some.1 h
      exact ((s.withPort_keeps (x := { s.port with offered := rest }) rfl).trans
        (State.accept_keeps (s.withPort { s.port with offered := rest }) hfree r)).trans (ih _)

theorem State.acceptStanding_keeps (s : State) : s.Keeps s.acceptStanding :=
  State.acceptUpTo_keeps _ s

end Sys2Proof.Machine
end

section
/-! What every operation keeps of the bounds of the tables: the window unit, the publication controller, epoch timing, the carry
engine, the boot load and the memory port. -/

namespace Sys2Proof.Machine

open Sys2Proof

/-! ## Rollback mark, blocking, pending work -/

theorem State.testRollback_keeps (s : State) (g : GroupId) : s.Keeps (s.testRollback g) := by
  unfold State.testRollback
  split
  · exact (s.setGroup_keeps g _).trans (State.record_keeps _ _)
  · exact .refl s

theorem State.testRollbacks_keeps (s : State) : s.Keeps s.testRollbacks :=
  State.Keeps.foldl State.testRollback_keeps _ s

theorem State.blockGroup_keeps (s : State) (g : GroupId) : s.Keeps (s.blockGroup g) := by
  unfold State.blockGroup
  split
  · exact s.setGroup_keeps g _
  · exact (s.setGroup_keeps g _).trans (State.record_keeps _ _)
  · exact .refl s

theorem State.unblockGroup_keeps (s : State) (g : GroupId) : s.Keeps (s.unblockGroup g) := by
  unfold State.unblockGroup
  split
  · split
    · exact .refl s
    · exact s.setGroup_keeps g _
  · exact .refl s
  · exact .refl s

theorem State.settleSlot_keeps (p : Address → Bool) (st : Status) (s : State) (i : Fin 8) :
    s.Keeps (State.settleSlot p st s i) := by
  unfold State.settleSlot
  split
  · exact .refl s
  · split
    · exact s.answer_keeps i st []
    · exact .refl s

theorem State.settleWrites_keeps (s : State) (p : Address → Bool) (st : Status) : s.Keeps (s.settleWrites p st) :=
  State.Keeps.foldl (State.settleSlot_keeps p st) _ s

theorem State.dropCarryWork_keeps (s : State) (w : WindowId) : s.Keeps (s.dropCarryWork w) :=
  s.filterDemand_keeps (p := fun d => decide (d.window ≠ w)) rfl

theorem State.dropEntry_keeps (s : State) (w : WindowId) (line : Nat) : s.Keeps (s.dropEntry w line) :=
  s.filterDemand_keeps (p := fun d => decide (d ≠ { window := w, line := line })) rfl

/-! ## Windows that change state -/

theorem State.endCarry_keeps (s : State) (w : WindowId) : s.Keeps (s.endCarry w) := by
  unfold State.endCarry
  split
  · split
    · refine .trans ?_ (State.record_keeps _ _)
      exact s.setWindow_keeps rfl rfl id
    · refine .trans ?_ (State.record_keeps _ _)
      exact s.setWindow_keeps rfl rfl id
    all_goals exact .refl s
  · exact .refl s

theorem State.faultWindow_keeps (s : State) (w : WindowId) (a : Address) : s.Keeps (s.faultWindow w a) := by
  unfold State.faultWindow
  dsimp only
  refine .trans (.trans (.trans (.trans (.trans ?_ (State.settleWrites_keeps _ _ _)) (State.dropCarryWork_keeps _ w))
    (State.record_keeps _ _)) (State.blockGroup_keeps _ _)) (State.testRollbacks_keeps _)
  exact s.setWindow_keeps rfl rfl fun _ => ⟨.nil, .nil⟩

theorem Window.everyLine_ascending (r : Window) : LineSet.ascending r.everyLine :=
  List.pairwise_lt_range

theorem State.enableTaken_keeps (s : State) (w : WindowId) : s.Keeps (s.enableTaken w) := by
  unfold State.enableTaken
  dsimp only
  refine .trans (.trans (.trans (.trans ?_ (State.settleWrites_keeps _ _ _)) (State.unblockGroup_keeps _ _))
    (State.retest_keeps _)) (State.acceptStanding_keeps _)
  exact s.setWindow_keeps rfl rfl fun _ => ⟨.nil, s.windows[w].everyLine_ascending⟩

theorem State.enableWindow_keeps (s : State) (w : WindowId) : s.Keeps (s.enableWindow w).2 := by
  unfold State.enableWindow
  split
  · dsimp only
    exact s.enableTaken_keeps w
  · exact .refl s

theorem State.changeState_keeps (s : State) (w : WindowId) {r : Window} (h0 : r.liveReads0 = s.windows[w].liveReads0)
    (h1 : r.liveReads1 = s.windows[w].liveReads1) (hdirty : r.dirty = []) (hcarry : LineSet.ascending r.carry) :
    s.Keeps (s.changeState w r) := by
  unfold State.changeState
  dsimp only
  refine .trans (.trans (.trans (.trans (.trans (.trans ?_ (State.settleWrites_keeps _ _ _)) (State.dropCarryWork_keeps _ w))
    (State.unblockGroup_keeps _ _)) (State.testRollbacks_keeps _)) (State.retest_keeps _)) (State.acceptStanding_keeps _)
  exact s.setWindow_keeps h0 h1 fun _ => ⟨hdirty ▸ .nil, hcarry⟩

theorem State.disableWindow_keeps (s : State) (w : WindowId) : s.Keeps (s.disableWindow w).2 := by
  have htaken : s.Keeps (s.changeState w s.windows[w].disabledBy) := by
    unfold Window.disabledBy
    split
    · exact s.changeState_keeps w rfl rfl rfl .nil
    · exact s.changeState_keeps w rfl rfl rfl (Window.everyLine_ascending _)
  unfold State.disableWindow
  split
  · exact .refl s
  · exact .refl s
  all_goals
    dsimp only
    exact htaken

theorem State.suspendWindow_keeps (s : State) (w : WindowId) : s.Keeps (s.suspendWindow w).2 := by
  have htaken : s.Keeps (s.changeState w s.windows[w].suspendedBy) := s.changeState_keeps w rfl rfl rfl .nil
  unfold State.suspendWindow
  split
  · exact .refl s
  · exact .refl s
  · exact .refl s
  all_goals
    dsimp only
    exact htaken

/-! ## The publication controller and epoch timing -/

theorem State.flipMembers_keeps (s : State) (g : GroupId) (n : Epoch) : s.Keeps (s.flipMembers g n) := by
  refine s.withWindows_keeps (fun w b => ?_) fun w h => ?_ <;> rw [mapTable_getElem_fin] <;> split
  · cases b <;> rfl
  · rfl
  · exact ⟨.nil, h.1⟩
  · exact h

theorem State.takeBoundary_keeps (s : State) (g : GroupId) (n : Epoch) : s.Keeps (s.takeBoundary g n) := by
  unfold State.takeBoundary
  split
  · exact .refl s
  · exact .refl s
  · split
    · exact s.setGroup_keeps g _
    · split
      · exact s.setGroup_keeps g _
      · split
        · exact ((s.flipMembers_keeps g n).trans (State.setGroup_keeps _ g _)).trans (State.record_keeps _ _)
        · exact (s.setGroup_keeps g _).trans (State.record_keeps _ _)

theorem State.boundaryAtGroup_keeps (e : SourceId) (n : Epoch) (s : State) (g : GroupId) :
    s.Keeps (State.boundaryAtGroup e n s g) := by
  unfold State.boundaryAtGroup
  split
  · exact s.takeBoundary_keeps g n
  · exact .refl s

theorem State.boundaryOf_keeps (s : State) (e : SourceId) : s.Keeps (s.boundaryOf e) :=
  ((s.setSource_keeps e _).trans (State.Keeps.foldl (State.boundaryAtGroup_keeps e _) _ _)).trans (State.retest_keeps _)

theorem State.publishGroup_keeps (s : State) (g : GroupId) : s.Keeps (s.publishGroup g).2 := by
  unfold State.publishGroup
  split <;> exact s.arm_keeps g none

theorem State.rollBackMembers_keeps (s : State) (g : GroupId) : s.Keeps (s.rollBackMembers g) := by
  refine s.withWindows_keeps (fun w b => ?_) fun w h => ?_ <;> rw [mapTable_getElem_fin] <;> unfold Window.rolledBack <;>
    split
  · split
    · cases b <;> rfl
    · rfl
  · rfl
  · split
    · exact ⟨.nil, LineSet.union_ascending _ _ h.2⟩
    · exact h
  · exact h

theorem State.dropArming_keeps (s : State) (g : GroupId) : s.Keeps (s.dropArming g) := by
  unfold State.dropArming
  split
  · exact (s.setGroup_keeps g _).trans (State.record_keeps _ _)
  · exact .refl s
  · exact .refl s

theorem State.rollbackGroup_keeps (s : State) (g : GroupId) : s.Keeps (s.rollbackGroup g) :=
  ((((s.rollBackMembers_keeps g).trans (State.dropArming_keeps _ g)).trans (State.setGroup_keeps _ g _)).trans
    (State.testRollbacks_keeps _)).trans (State.retest_keeps _)

theorem State.writeHold_keeps (s : State) (g : GroupId) (hold : Bool) : s.Keeps (s.writeHold g hold) := by
  unfold State.writeHold
  dsimp only
  split
  · exact s.setGroup_keeps g _
  · split
    · split
      · exact s.setGroup_keeps g _
      · exact s.setGroup_keeps g _
      · exact s.setGroup_keeps g _
    · exact .refl s

/-! ## The carry engine -/

theorem State.takeLine_keeps (s : State) (c : Fin 2) (w : WindowId) (line : Nat) (origin : CopyOrigin) :
    s.Keeps (s.takeLine c w line origin) := by
  unfold State.takeLine
  dsimp only
  refine .trans (.trans (s.setCopier_keeps c (.busy (s.copyOf w line origin))) ?_) (State.retest_keeps _)
  exact State.withCarry_keeps _ id

theorem State.removeLine_keeps (s : State) (w : WindowId) (line : Nat) :
    s.Keeps (s.setWindow w { s.windows[w] with carry := LineSet.remove line s.windows[w].carry }) :=
  s.setWindow_keeps rfl rfl fun ⟨hdirty, hcarry⟩ => ⟨hdirty, LineSet.remove_ascending _ _ hcarry⟩

theorem State.lineCopied_keeps (s : State) (w : WindowId) (line : Nat) : s.Keeps (s.lineCopied w line) :=
  (((s.removeLine_keeps w line).trans (State.dropEntry_keeps _ w line)).trans (State.endCarry_keeps _ w)).trans
    (State.testRollbacks_keeps _)

theorem State.copyOkay_keeps (s : State) (c : Fin 2) (k : CopyRecord) (data : List Beat) :
    s.Keeps (s.copyOkay c k data) := by
  unfold State.copyOkay
  split
  · exact s.setCopier_keeps c _
  · exact (s.setCopier_keeps c .idle).trans (State.lineCopied_keeps _ _ _)

theorem State.copyResult_keeps (s : State) (c : Fin 2) (ok : Bool) (data : List Beat) :
    s.Keeps (s.copyResult c ok data) := by
  unfold State.copyResult
  split
  · exact .refl s
  · split
    · exact s.setCopier_keeps c .idle
    · split
      · exact s.copyOkay_keeps c _ data
      · exact (s.setCopier_keeps c .idle).trans (State.faultWindow_keeps _ _ _)

/-! ## The boot load -/

theorem State.applyGroupRecord_keeps (bytes : List Byte) (s : State) (i : Nat) :
    s.Keeps (State.applyGroupRecord bytes s i) := by
  unfold State.applyGroupRecord
  split
  · exact .refl s
  · exact s.setGroup_keeps _ _

theorem State.applyWindowRecord_keeps (bytes : List Byte) (s : State) (i : Nat) :
    s.Keeps (State.applyWindowRecord bytes s i) := by
  unfold State.applyWindowRecord
  split
  · exact .refl s
  · exact s.setWindow_keeps rfl rfl id

theorem State.applyImage_keeps (s : State) (bytes : List Byte) : s.Keeps (s.applyImage bytes) :=
  (State.Keeps.foldl (State.applyGroupRecord_keeps bytes) _ s).trans
    (State.Keeps.foldl (State.applyWindowRecord_keeps bytes) _ _)

theorem State.enableAtBootLoad_keeps (s : State) (w : WindowId) : s.Keeps (s.enableAtBootLoad w) := by
  unfold State.enableAtBootLoad
  split
  · exact s.enableWindow_keeps w
  · exact .refl s

theorem State.endBoot_keeps (s : State) (r : EventRecord) : s.Keeps (s.endBoot r) :=
  (s.record_keeps r).trans (State.withStartUp_keeps _ _)

theorem State.bootApply_keeps (s : State) (bytes : List Byte) : s.Keeps (s.bootApply bytes) := by
  unfold State.bootApply
  split
  · exact s.endBoot_keeps _
  · exact ((s.applyImage_keeps bytes).trans (State.Keeps.foldl State.enableAtBootLoad_keeps _ _)).trans
      (State.endBoot_keeps _ _)

theorem State.bootStart_keeps (s : State) : s.Keeps s.bootStart :=
  s.withStartUp_keeps _

theorem State.bootPointer_keeps (s : State) (data : List Beat) : s.Keeps (s.bootPointer data) := by
  unfold State.bootPointer
  dsimp only
  split
  · exact s.endBoot_keeps _
  · exact s.withStartUp_keeps _

theorem State.bootImage_keeps (s : State) (data : List Beat) : s.Keeps (s.bootImage data) := by
  unfold State.bootImage
  dsimp only
  split
  · split
    · exact s.endBoot_keeps _
    · exact s.withStartUp_keeps _
  · split
    · exact s.withStartUp_keeps _
    · exact s.bootApply_keeps _

theorem State.bootResult_keeps (s : State) (ok : Bool) (data : List Beat) : s.Keeps (s.bootResult ok data) := by
  unfold State.bootResult
  split
  · split
    · exact s.bootPointer_keeps data
    · exact s.bootImage_keeps data
    all_goals exact .refl s
  · exact s.endBoot_keeps _

/-! ## The memory port -/

theorem State.stageLine_keeps (s : State) (t : Transfer) (w : WindowId) : s.Keeps (s.stageLine t w) := by
  unfold State.stageLine
  dsimp only
  split
  · refine .trans (.trans (.trans ?_ (State.dropEntry_keeps _ w _)) (State.endCarry_keeps _ w)) (State.testRollbacks_keeps _)
    exact s.setWindow_keeps rfl rfl fun ⟨hdirty, hcarry⟩ =>
      ⟨LineSet.insert_ascending _ _ hdirty, LineSet.remove_ascending _ _ hcarry⟩
  · exact s.setWindow_keeps rfl rfl fun ⟨hdirty, hcarry⟩ => ⟨LineSet.insert_ascending _ _ hdirty, hcarry⟩

theorem State.issueSteps_keeps (s : State) (t : Transfer) : s.Keeps (s.issueSteps t) := by
  unfold State.issueSteps
  split
  · split
    · exact s.stageLine_keeps t _
    · exact .refl s
  · exact .refl s

theorem State.issue_keeps (s : State) {o : Owner} {q : MemRequest} {s1 : State} (h : s.issue o = some (q, s1)) :
    s.Keeps s1 := by
  unfold State.issue at h
  split at h
  · cases hr : s.startUp.read <;> rw [hr] at h <;> cases h
    exact s.withStartUp_keeps _
  · split at h <;> cases h
    exact s.setCopier_keeps _ _
  · rename_i i
    cases ht : s.port.slots[i] with
    | none => rw [ht] at h; cases h
    | some t =>
      rw [ht] at h
      cases h
      refine .trans ?_ (State.issueSteps_keeps _ t)
      exact s.setSlot_keeps (u := s.issuedTransfer t) ht rfl rfl fun _ =>
        ⟨fun hp => TransferPhase.noConfusion hp, fun _ hx => nomatch hx⟩
  · split at h
    · cases h
    · rename_i t ht
      split at h <;> cases h
      exact s.setSlot_keeps ht rfl rfl id

theorem State.shareAfter_le (s : State) (cls : RequestClass) (h : s.shareBounded) : s.shareAfter cls ≤ Config.shareLimit := by
  unfold State.shareAfter
  split
  · split
    · exact Nat.min_le_right _ _
    · exact Nat.zero_le _
  · exact Nat.zero_le _
  all_goals exact h

theorem State.grant_keeps (s : State) (k : Fin 12) (cls : RequestClass) (o : Owner) : s.Keeps (s.grant k cls o) := by
  unfold State.grant
  split
  · exact .refl s
  · rename_i q s1 h
    have hissue := s.issue_keeps h
    have henter : s.Keeps (s1.enterSlot k q o (s.shareAfter cls)) :=
      ⟨hissue.counts, hissue.events, hissue.locks, hissue.demand, hissue.limits, fun h => s.shareAfter_le cls h, hissue.sets,
        hissue.holds, hissue.serial⟩
    exact henter.trans (State.retest_keeps _)

theorem State.transferResult_keeps (s : State) (i : Fin 8) (part : TransferPart) (ok : Bool) (data : List Beat) :
    s.Keeps (s.transferResult i part ok data) := by
  unfold State.transferResult
  split
  · exact .refl s
  · rename_i t ht
    have hset : s.Keeps (s.setSlot i (some (t.withResult part ok))) := by
      cases part <;> exact s.setSlot_keeps ht rfl rfl id
    dsimp only
    split
    · exact hset.trans (State.answer_keeps _ _ _ _)
    · exact hset

theorem State.handResult_keeps (s : State) (o : Owner) (ok : Bool) (data : List Beat) : s.Keeps (s.handResult o ok data) := by
  cases o with
  | transfer i part => exact s.transferResult_keeps i part ok data
  | copier c => exact s.copyResult_keeps c ok data
  | startUp => exact s.bootResult_keeps ok data

theorem State.countFree_keeps (s : State) (b : Bool) : s.Keeps (s.countFree b) := by
  cases b
  · exact .refl s
  · exact s.withFreeUses_keeps _

theorem State.respondPending_keeps (s : State) (k : Fin 12) (q : MemRequest) (o : Owner) (st : MemStatus)
    (data : List Beat) : s.Keeps (s.respondPending k q o st data) := by
  unfold State.respondPending
  cases st
  · exact ((((s.setMemSlot_keeps k .free).trans (State.countFree_keeps _ _)).trans (State.handResult_keeps _ _ _ _)).trans
      (State.retest_keeps _)).trans (State.acceptStanding_keeps _)
  · exact (((s.setMemSlot_keeps k .free).trans (State.handResult_keeps _ _ _ _)).trans (State.retest_keeps _)).trans
      (State.acceptStanding_keeps _)

theorem State.timeOut_keeps (s : State) (k : Fin 12) (q : MemRequest) (o : Owner) : s.Keeps (s.timeOut k q o) :=
  ((((s.record_keeps _).trans (State.setMemSlot_keeps _ k _)).trans (State.handResult_keeps _ _ _ _)).trans
    (State.retest_keeps _)).trans (State.acceptStanding_keeps _)

end Sys2Proof.Machine
end

section
/-! What every step keeps of the bounds of the tables: ticks, resets, the management link, then every command and every
step. -/

namespace Sys2Proof.Machine

open Sys2Proof

/-! ## The tick of REFCLK -/

theorem State.tickMemory_keeps (s : State) : s.Keeps s.tickMemory :=
  s.withMem_keeps id

/-- R107: a tick keeps a hold count within its limit. -/
theorem Transfer.tick_holdCounted {t : Transfer} (h : t.holdCounted) : t.tick.holdCounted := by
  unfold Transfer.tick
  split
  · exact ⟨fun _ => rfl, fun x hx => by cases hx; exact Nat.min_le_right _ _⟩
  · exact h

theorem Transfer.tick_countedIn (t : Transfer) (w : WindowId) (b : Bank) : t.tick.countedIn w b = t.countedIn w b := by
  unfold Transfer.tick
  split <;> rfl

theorem State.tickHolds_keeps (s : State) :
    s.Keeps (s.withPort { s.port with slots := mapTable (fun _ e => e.map Transfer.tick) s.port.slots }) := by
  refine s.withSlots_keeps (fun i w b => ?_) fun i h u hu => ?_
  · rw [mapTable_getElem_fin]
    cases s.port.slots[i] with
    | none => rfl
    | some t => exact t.tick_countedIn w b
  · rw [mapTable_getElem_fin] at hu
    obtain ⟨t, ht, rfl⟩ := Option.map_eq_some_iff.1 hu
    exact Transfer.tick_holdCounted (h t ht)

theorem State.tickLocks_keeps (s : State) : s.Keeps (s.withLocks (mapTable (fun _ e => e.map Lock.tick) s.locks)) := by
  refine s.withLocks_keeps fun j a ha => ?_
  rw [mapTable_getElem_fin] at ha
  obtain ⟨l, hl, rfl⟩ := Option.map_eq_some_iff.1 ha
  exact ⟨l, hl, rfl⟩

theorem State.tickOthers_keeps (s : State) : s.Keeps s.tickOthers :=
  ((s.withTiming_keeps _).trans (State.tickHolds_keeps (s.withTiming _))).trans
    (State.tickLocks_keeps ((s.withTiming _).withPort _))

theorem State.tick_keeps (s : State) : s.Keeps s.tick := by
  unfold State.tick
  dsimp only
  split
  · exact s.quiet_keeps
  · split
    · exact s.quiet_keeps.trans (State.tickMemory_keeps _)
    · exact (s.quiet_keeps.trans (State.tickMemory_keeps _)).trans (State.tickOthers_keeps _)

/-! ## The resets -/

/-- R34: an empty table counts no transfer. -/
theorem State.countedReads_of_empty {s : State} (h : ∀ i : Fin 8, s.port.slots[i] = none) (w : WindowId) (b : Bank) :
    s.countedReads w b = 0 := by
  simp only [State.countedReads, h]
  simp

theorem State.resetBlocks_keeps (s : State) : s.Keeps s.resetBlocks := by
  obtain ⟨hwindows, -, hslots, hlocks, -, -⟩ := s.resetBlocks_tables
  refine ⟨fun _ w b => ?_, id, fun _ i j a ha => ?_, fun _ => ⟨Nat.zero_le _, .nil⟩, id, fun _ => Nat.zero_le _,
    fun _ w => ?_, fun _ i t ht => ?_, id⟩
  · rw [hwindows, State.countedReads_of_empty hslots]
    cases b <;> rfl
  · rw [hlocks] at ha; cases ha
  · rw [hwindows]; exact ⟨.nil, .nil⟩
  · rw [hslots] at ht; cases ht

theorem State.softResetTaken_keeps (s : State) : s.Keeps s.softResetTaken := by
  unfold State.softResetTaken
  dsimp only
  refine .trans (.trans (.trans s.resetBlocks_keeps ?_) (State.record_keeps _ _)) (State.acceptStanding_keeps _)
  exact State.withTiming_keeps _ _

/-- R157: with no bit of a byte, no first index byte and MDO undriven, every frame state is consistent. -/
theorem Link.serialConsistent_of_empty {l : Link} (hbits : l.inBits = []) (hindex : l.indexHigh = none)
    (hmdo : l.mdo = none) : l.serialConsistent := by
  refine ⟨by rw [hbits]; exact Nat.zero_le _, fun _ => hbits, fun h => ?_, fun h => ?_⟩
  · rw [hindex] at h; cases h
  · rw [hmdo] at h; cases h

/-- R157: outside a read frame MDO is undriven. -/
theorem Link.mdo_eq_none {l : Link} (h : l.serialConsistent) (hframe : ∀ i, l.frame ≠ .read i) : l.mdo = none := by
  obtain ⟨-, -, -, hmdo⟩ := h
  cases hm : l.mdo with
  | none => rfl
  | some b =>
    obtain ⟨i, hi⟩ := hmdo (by rw [hm]; rfl)
    exact absurd hi (hframe i)

/-- R158: a first index byte is held only before the index is complete. -/
theorem Link.indexHigh_eq_none {l : Link} (h : l.serialConsistent) (hframe : ∀ d, l.frame ≠ .index d) :
    l.indexHigh = none := by
  obtain ⟨-, -, hindex, -⟩ := h
  cases hm : l.indexHigh with
  | none => rfl
  | some b =>
    obtain ⟨d, hd⟩ := hindex (by rw [hm]; rfl)
    exact absurd hd (hframe d)

theorem State.lineResetLink_keeps (s : State) : s.Keeps (s.withLink s.link.afterLineReset) :=
  s.withLink_keeps id fun _ => Link.serialConsistent_of_empty rfl rfl rfl

theorem State.lineResetTaken_keeps (s : State) : s.Keeps s.lineResetTaken := by
  have hblocks := s.resetBlocks_keeps
  unfold State.lineResetTaken
  generalize s.resetBlocks = u at hblocks
  exact ((hblocks.trans (u.withTiming_keeps u.timing.afterLineReset)).trans
    (State.lineResetLink_keeps (u.withTiming u.timing.afterLineReset))).trans (State.withStartUp_keeps _ _)

theorem State.poweredOn_keeps (s : State) : s.Keeps s.poweredOn := by
  obtain ⟨-, hcounts, -, hevents, hlocks, hdemand, hlimits, hshare, hholds, hsets, hserial⟩ :=
    resetStateHasEveryInvariant
  exact ⟨fun _ => hcounts, fun _ => hevents, fun _ => hlocks, fun _ => hdemand, fun _ => hlimits, fun _ => hshare,
    fun _ => hsets, fun _ => hholds, fun _ => hserial⟩

theorem State.lineReleased_keeps (s : State) : s.Keeps s.lineReleased := by
  unfold State.lineReleased
  dsimp only
  split
  · exact (s.record_keeps _).trans (State.bootStart_keeps _)
  · exact (s.record_keeps _).trans (State.endBoot_keeps _ _)
  · exact (s.record_keeps _).trans (State.endBoot_keeps _ _)
  · exact s.record_keeps _
  · exact s.record_keeps _

/-! ## Commits of fields -/

theorem State.refuseWrite_keeps (s : State) : s.Keeps s.refuseWrite :=
  s.withLink_keeps id id

theorem State.commitRange_keeps (s : State) (w : WindowId) {r : Window} (h0 : r.liveReads0 = s.windows[w].liveReads0)
    (h1 : r.liveReads1 = s.windows[w].liveReads1) (hdirty : r.dirty = s.windows[w].dirty)
    (hcarry : r.carry = s.windows[w].carry) : s.Keeps (s.commitRange w r) := by
  have hset : s.Keeps (s.setWindow w r) := s.setWindow_keeps h0 h1 (by rw [hdirty, hcarry]; exact id)
  unfold State.commitRange
  split
  · exact hset
  · split
    · unfold State.settleRangeChange
      split
      · exact .refl s
      · exact ((hset.trans (State.settleWrites_keeps _ _ _)).trans (State.retest_keeps _)).trans
          (State.acceptStanding_keeps _)
    · exact s.refuseWrite_keeps
  all_goals exact s.refuseWrite_keeps

theorem State.commitMode_keeps (s : State) (w : WindowId) {r : Option Window}
    (h : ∀ x ∈ r, s.Keeps (s.setWindow w x)) : s.Keeps (s.commitMode w r) := by
  unfold State.commitMode
  split
  · exact (h _ rfl).trans (State.testRollbacks_keeps _)
  · exact (h _ rfl).trans (State.testRollbacks_keeps _)
  · exact s.refuseWrite_keeps

theorem State.commitGroup_keeps (s : State) (g : GroupId) (r : Option Group) : s.Keeps (s.commitGroup g r) := by
  unfold State.commitGroup
  split
  · exact s.setGroup_keeps g _
  · exact s.refuseWrite_keeps

theorem valueOf_lt (l : List Byte) : valueOf l < 256 ^ l.length := by
  induction l with
  | nil => exact Nat.one_pos
  | cons b l ih =>
    have := b.isLt
    simp only [valueOf, List.length_cons, Nat.pow_succ]
    omega

theorem State.composed_lt (s : State) (f : Field) (i : Index) (l : List (Index × Byte)) :
    s.composed f i l < 256 ^ f.width := by
  have h := valueOf_lt ((List.range f.width).map fun j =>
    composedByte l (i + BitVec.ofNat 16 j) ((s.fieldBytes f).getD j 0))
  simpa [State.composed] using h

/-- R163: a limit that takes a value other than 0 is not 0. -/
theorem State.commitLimit_keeps (s : State) {v : Nat} (hv : v < 256 ^ 2) {l : Link}
    (hlimits : BitVec.ofNat 16 v ≠ 0 → s.link.limitsPositive → l.limitsPositive)
    (hserial : s.link.serialConsistent → l.serialConsistent) : s.Keeps (s.commitLimit v l) := by
  unfold State.commitLimit
  split
  · exact s.refuseWrite_keeps
  · exact s.withLink_keeps (hlimits (by bv_omega)) hserial

/-- R153: the positions that name no kind stay clear. -/
theorem EventQueue.setMask_consistent (q : EventQueue) (mask : BitVec 32) (h : q.consistent) :
    (q.setMask mask).consistent := by
  obtain ⟨hlength, -, -⟩ := h
  refine ⟨hlength, ?_, rfl⟩
  show mask &&& maskPositions &&& ~~~maskPositions = 0
  rw [BitVec.and_assoc, BitVec.and_not_self]
  exact BitVec.and_zero

theorem EventQueue.removeHead_consistent (q : EventQueue) (h : q.consistent) : q.removeHead.consistent := by
  obtain ⟨hlength, hmask, -⟩ := h
  refine ⟨?_, hmask, rfl⟩
  show q.records.tail.length ≤ _
  rw [List.length_tail]
  omega

theorem State.commit_keeps (s : State) {f : Field} {v : Nat} (hv : v < 256 ^ f.width) : s.Keeps (s.commit f v) := by
  cases f with
  | argument => exact s.withLink_keeps id id
  | code => exact .refl s
  | result => exact s.refuseWrite_keeps
  | writeRefused =>
    show s.Keeps (if v = 0 then _ else _)
    split
    · exact s.withLink_keeps id id
    · exact s.refuseWrite_keeps
  | holdLimit => exact s.commitLimit_keeps hv (fun h ⟨_, hl, hm⟩ => ⟨h, hl, hm⟩) id
  | lockLimit => exact s.commitLimit_keeps hv (fun h ⟨hh, _, hm⟩ => ⟨hh, h, hm⟩) id
  | memoryLimit => exact s.commitLimit_keeps hv (fun h ⟨hh, hl, _⟩ => ⟨hh, hl, h⟩) id
  | eventMask => exact s.withEvents_keeps (s.events.setMask_consistent _)
  | eventCount => exact s.refuseWrite_keeps
  | overrun =>
    show s.Keeps (if v = 0 then _ else _)
    split
    · exact s.withEvents_keeps id
    · exact s.refuseWrite_keeps
  | headRecord => exact s.refuseWrite_keeps
  | windowBase w => exact s.commitRange_keeps w rfl rfl rfl rfl
  | windowTwin w => exact s.commitRange_keeps w rfl rfl rfl rfl
  | windowSizeCode w => exact s.commitRange_keeps w rfl rfl rfl rfl
  | windowGroup w =>
    refine s.commitMode_keeps w fun x hx => ?_
    obtain ⟨g, -, rfl⟩ := Option.map_eq_some_iff.1 hx
    exact s.setWindow_keeps rfl rfl id
  | windowPolicy w =>
    refine s.commitMode_keeps w fun x hx => ?_
    obtain ⟨g, -, rfl⟩ := Option.map_eq_some_iff.1 hx
    exact s.setWindow_keeps rfl rfl id
  | windowEnableAtBoot w => exact s.refuseWrite_keeps
  | windowStatus w => exact s.refuseWrite_keeps
  | groupProducers g => exact s.commitGroup_keeps g _
  | groupSource g => exact s.commitGroup_keeps g _
  | groupLag g => exact s.commitGroup_keeps g _
  | groupHold g => exact s.writeHold_keeps g _
  | groupTrigger g => exact s.commitGroup_keeps g _
  | groupStatus g => exact s.refuseWrite_keeps
  | sourceCounter e => exact s.refuseWrite_keeps
  | sourcePhase e => exact s.refuseWrite_keeps
  | sourceCloseDelay e => exact s.setSource_keeps e _
  | sourceCloseTimer e => exact s.refuseWrite_keeps

/-! ## Data bytes of a write frame -/

theorem State.writeAt_keeps (s : State) (i : Index) (b : Byte) : s.Keeps (s.writeAt i b) := by
  unfold State.writeAt
  split
  · exact .refl s
  · split
    · exact s.refuseWrite_keeps
    · split
      · exact s.refuseWrite_keeps
      · split
        · exact s.withLink_keeps id id
        · refine .trans ?_ (State.commit_keeps _ (s.composed_lt _ _ _))
          exact s.withLink_keeps id id

/-- What a commit leaves of the frame. -/
theorem State.commit_linkFrame (s : State) (f : Field) (v : Nat) : (s.commit f v).link.frame = s.link.frame := by
  unfold State.commit State.commitRange State.settleRangeChange State.commitMode State.commitGroup State.commitLimit
    State.writeHold State.refuseWrite Link.refuse
  dsimp only
  repeat' split
  all_goals simp

theorem State.writeAt_linkFrame (s : State) (i : Index) (b : Byte) : (s.writeAt i b).link.frame = s.link.frame := by
  unfold State.writeAt State.refuseWrite
  split
  · rfl
  · repeat' split
    · rfl
    · rfl
    · rfl
    · exact State.commit_linkFrame _ _ _

/-- A write frame goes on at another index. -/
theorem State.writeOn_keeps (s : State) {i : Index} (hframe : s.link.frame = .write i) (j : Index) :
    s.Keeps (s.withLink { s.link with frame := .write j }) := by
  refine s.withLink_keeps id fun h => ?_
  have hindex : s.link.indexHigh = none := Link.indexHigh_eq_none h (by simp [hframe])
  have hmdo : s.link.mdo = none := Link.mdo_eq_none h (by simp [hframe])
  obtain ⟨hbits, -, -, -⟩ := h
  exact ⟨hbits, fun hf => Bool.noConfusion hf, fun hi => absurd (hindex ▸ hi) (by simp),
    fun hm => absurd (hmdo ▸ hm) (by simp)⟩

theorem State.writeByte_keeps (s : State) {i : Index} (hframe : s.link.frame = .write i) (j : Index) (b : Byte) :
    s.Keeps (s.writeByte j b) :=
  (s.writeAt_keeps j b).trans (State.writeOn_keeps _ ((s.writeAt_linkFrame j b).trans hframe) _)

theorem State.byteAs_keeps (s : State) (row : ByteRow) (b : Byte) : s.Keeps (s.byteAs row b) := by
  unfold State.byteAs
  split
  · rename_i i hframe
    split
    · obtain ⟨hf, -, -, -⟩ := (s.byteFrame_eq_iff _ (by simp)).1 hframe
      exact s.writeByte_keeps hf i b
    · exact .refl s
  all_goals exact .refl s

/-! ## Commands of the management link -/

theorem State.onWindow_keeps (s : State) {body : WindowId → CommandResult × State} (h : ∀ w, s.Keeps (body w).2) :
    s.Keeps (s.onWindow body).2 := by
  unfold State.onWindow
  split
  · exact .refl s
  · exact h _

theorem State.onGroup_keeps (s : State) {body : GroupId → CommandResult × State} (h : ∀ g, s.Keeps (body g).2) :
    s.Keeps (s.onGroup body).2 := by
  unfold State.onGroup
  split
  · exact .refl s
  · exact h _

theorem State.enableNamed_keeps (s : State) : s.Keeps s.enableNamed.2 := s.onWindow_keeps s.enableWindow_keeps
theorem State.disableNamed_keeps (s : State) : s.Keeps s.disableNamed.2 := s.onWindow_keeps s.disableWindow_keeps
theorem State.suspendNamed_keeps (s : State) : s.Keeps s.suspendNamed.2 := s.onWindow_keeps s.suspendWindow_keeps
theorem State.publishNamed_keeps (s : State) : s.Keeps s.publishNamed.2 := s.onGroup_keeps s.publishGroup_keeps
theorem State.rollbackNamed_keeps (s : State) : s.Keeps s.rollbackNamed.2 := s.onGroup_keeps s.rollbackGroup_keeps
theorem State.boundaryByCommand_keeps (s : State) : s.Keeps s.boundaryByCommand.2 := by
  unfold State.boundaryByCommand
  dsimp only
  exact s.boundaryOf_keeps 2
theorem State.softResetByCommand_keeps (s : State) : s.Keeps s.softResetByCommand.2 := by
  unfold State.softResetByCommand
  dsimp only
  exact s.softResetTaken_keeps
theorem State.noCommand_keeps (s : State) : s.Keeps s.noCommand.2 := .refl s

theorem codeBody_keeps (code : Byte) (s : State) : s.Keeps (codeBody code s).2 := by
  unfold codeBody
  repeat' split
  · exact s.enableNamed_keeps
  · exact s.disableNamed_keeps
  · exact s.suspendNamed_keeps
  · exact s.publishNamed_keeps
  · exact s.rollbackNamed_keeps
  · exact s.boundaryByCommand_keeps
  · exact s.softResetByCommand_keeps
  · exact s.noCommand_keeps

theorem State.runCommand_keeps (s : State) {i : Index} (hframe : s.link.frame = .write i) (code : Byte)
    {body : State → CommandResult × State} (hbody : ∀ u : State, u.Keeps (body u).2) :
    s.Keeps (s.runCommand code body) := by
  have hcode : s.Keeps (s.takeCode code) :=
    (s.writeOn_keeps hframe 0x0002).trans (State.withLink_keeps _ id id)
  unfold State.runCommand
  dsimp only
  split
  · exact hcode.trans (State.withLink_keeps _ id id)
  · exact (hcode.trans (hbody _)).trans (State.withLink_keeps _ id id)

theorem State.command_keeps (s : State) (code : Byte) {body : State → CommandResult × State}
    (hbody : ∀ u : State, u.Keeps (body u).2) : s.Keeps (s.command code body) := by
  unfold State.command
  split
  · rename_i hframe
    obtain ⟨hf, -, -, -⟩ := (s.byteFrame_eq_iff _ (by simp)).1 hframe
    exact s.runCommand_keeps hf code hbody
  · exact .refl s

/-! ## Frames and the bits of a byte -/

theorem State.completeRead_bounds (s : State) (i : Index) : s.Keeps (s.completeRead i) := by
  unfold State.completeRead
  split
  · exact .refl s
  · split
    · exact s.withEvents_keeps s.events.removeHead_consistent
    · exact .refl s

theorem State.completeRead_link (s : State) (i : Index) : (s.completeRead i).link = s.link := by
  unfold State.completeRead
  repeat' split
  all_goals rfl

/-- A read frame goes on at another index. -/
theorem State.readOn_keeps (s : State) {i : Index} (hframe : s.link.frame = .read i) (j : Index) :
    s.Keeps (s.withLink { s.link with frame := .read j }) := by
  refine s.withLink_keeps id fun h => ?_
  have hindex : s.link.indexHigh = none := Link.indexHigh_eq_none h (by simp [hframe])
  obtain ⟨hbits, -, -, -⟩ := h
  exact ⟨hbits, fun hf => Bool.noConfusion hf, fun hi => absurd (hindex ▸ hi) (by simp), fun _ => ⟨j, rfl⟩⟩

theorem State.present_keeps (s : State) {i : Index} (hframe : s.link.frame = .read i) (j : Index) :
    s.Keeps (s.present j) := by
  have hserial (l : Link) (hf : l.frame = s.link.frame) (hb : l.inBits = s.link.inBits)
      (hi : l.indexHigh = s.link.indexHigh) (h : s.link.serialConsistent) : l.serialConsistent := by
    obtain ⟨hbits, htakes, hindex, -⟩ := h
    exact ⟨hb ▸ hbits, by rw [hf, hb]; exact htakes, by rw [hf, hi]; exact hindex, fun _ => ⟨i, hf.trans hframe⟩⟩
  unfold State.present
  split
  · exact s.withLink_keeps id (hserial _ rfl rfl rfl)
  · exact s.withLink_keeps id (hserial _ rfl rfl rfl)

theorem State.takeReadByte_keeps (s : State) {i : Index} (hframe : s.link.frame = .read i) (j : Index) :
    s.Keeps (s.takeReadByte j) := by
  have hf : (s.completeRead j).link.frame = .read i := by rw [State.completeRead_link]; exact hframe
  exact (s.completeRead_bounds j).trans (State.readOn_keeps _ hf _)

theorem State.takeByte_keeps (s : State) (hbits : s.link.inBits = []) (b : Byte) : s.Keeps (s.takeByte b) := by
  unfold State.takeByte
  split
  · rename_i hframe
    refine s.withLink_keeps id fun h => ?_
    have hindex : s.link.indexHigh = none := Link.indexHigh_eq_none h (by simp [hframe])
    have hmdo : s.link.mdo = none := Link.mdo_eq_none h (by simp [hframe])
    exact Link.serialConsistent_of_empty hbits hindex hmdo
  · rename_i d hframe
    unfold State.takeIndexByte
    split
    · refine s.withLink_keeps id fun ⟨hlength, htakes, _, hmdo⟩ => ⟨hlength, htakes, fun _ => ⟨d, hframe⟩, hmdo⟩
    · refine s.withLink_keeps id fun h => ?_
      have hmdo : s.link.mdo = none := Link.mdo_eq_none h (by simp [hframe])
      exact Link.serialConsistent_of_empty hbits rfl hmdo
  · rename_i i hframe
    exact s.takeReadByte_keeps hframe i
  · rename_i i hframe
    unfold State.takeWriteByte
    split
    · exact s.runCommand_keeps hframe b (codeBody_keeps b)
    · exact s.writeByte_keeps hframe i b
  · exact .refl s
  · exact .refl s

theorem State.sampleBit_keeps (s : State) (b : Bool) : s.Keeps (s.sampleBit b) := by
  unfold State.sampleBit
  split
  · rename_i htakes
    split
    · rename_i hlength
      refine s.withLink_keeps id fun ⟨_, _, hindex, hmdo⟩ =>
        ⟨by rw [List.length_append, List.length_singleton]; omega, fun hf => absurd (htakes.symm.trans hf) (by simp),
          hindex, hmdo⟩
    · refine .trans ?_ (State.takeByte_keeps _ rfl _)
      exact s.withLink_keeps id fun ⟨_, _, hindex, hmdo⟩ => ⟨Nat.zero_le _, fun _ => rfl, hindex, hmdo⟩
  · exact .refl s

theorem State.presentBit_keeps (s : State) : s.Keeps s.presentBit := by
  unfold State.presentBit
  split
  · rename_i i hframe
    split
    · exact s.present_keeps hframe i
    · exact s.withLink_keeps id fun ⟨hbits, htakes, hindex, _⟩ => ⟨hbits, htakes, hindex, fun _ => ⟨i, hframe⟩⟩
  all_goals exact .refl s

theorem State.nextEdge_keeps {s t : State} (h : s.nextEdge = some t) : s.Keeps t := by
  unfold State.nextEdge at h
  split at h
  · cases h
  · split at h
    · cases h
      exact (s.quiet_keeps.trans (State.withPins_keeps _ _)).trans (State.presentBit_keeps _)
    · split at h <;> cases h
      exact (s.quiet_keeps.trans (State.withPins_keeps _ _)).trans (State.sampleBit_keeps _ _)

end Sys2Proof.Machine
end

section
/-! Every command and every step keeps the bounds of the tables: the statements about live-read counts (R34) and about bounds
(R145, R116, R37, R163, R135, R31, R107, R157). -/

namespace Sys2Proof.Machine

open Sys2Proof

/-! ## Every command -/

/-- What the meaning of a command that always goes on keeps. -/
theorem State.Keeps.of_next {s t u : State} (hk : s.Keeps t)
    (h : (.next t : Host.Outcome State Fault Refusal) = .next u) : s.Keeps u := by
  cases h
  exact hk

theorem execMemGrant_keeps {s u : State} (h : execMemGrant s = .next u) : s.Keeps u := by
  have hquiet := s.quiet_keeps
  unfold execMemGrant at h
  dsimp only at h
  split at h
  · exact hquiet.of_next h
  · rename_i k cls o _
    exact (hquiet.trans (State.grant_keeps _ k cls o)).of_next h

theorem execMemResponse_keeps {k : Fin 12} {st : MemStatus} {data : List Beat} {s u : State} (h : execMemResponse k st data s = .next u) : s.Keeps u := by
  have hquiet := s.quiet_keeps
  unfold execMemResponse at h
  dsimp only at h
  split at h
  · exact hquiet.of_next h
  · exact (hquiet.trans (State.setMemSlot_keeps _ _ _)).of_next h
  · exact (hquiet.trans (State.respondPending_keeps _ _ _ _ _ _)).of_next h

theorem execMemTimeout_keeps {k : Fin 12} {s u : State} (h : execMemTimeout k s = .next u) : s.Keeps u := by
  have hquiet := s.quiet_keeps
  unfold execMemTimeout at h
  dsimp only at h
  split at h
  · exact hquiet.of_next h
  · exact hquiet.of_next h
  · split at h
    · exact (hquiet.trans (State.timeOut_keeps _ _ _ _)).of_next h
    · exact hquiet.of_next h

theorem execFenceEnd_keeps {k : Fin 12} {s u : State} (h : execFenceEnd k s = .next u) : s.Keeps u := by
  have hquiet := s.quiet_keeps
  unfold execFenceEnd at h
  dsimp only at h
  split at h
  · exact hquiet.of_next h
  · exact hquiet.of_next h
  · split at h
    · exact (hquiet.trans (State.setMemSlot_keeps _ _ _)).of_next h
    · exact hquiet.of_next h

theorem execCopierTake_keeps {s u : State} (h : execCopierTake s = .next u) : s.Keeps u := by
  have hquiet := s.quiet_keeps
  unfold execCopierTake at h
  dsimp only at h
  split at h
  · exact hquiet.of_next h
  · exact (hquiet.trans (State.takeLine_keeps _ _ _ _ _)).of_next h

theorem execHoldLimitExpiry_keeps {i : Fin 8} {s u : State} (h : execHoldLimitExpiry i s = .next u) : s.Keeps u := by
  have hquiet := s.quiet_keeps
  unfold execHoldLimitExpiry at h
  dsimp only at h
  split at h
  · exact hquiet.of_next h
  · split at h
    · exact ((((hquiet.trans (State.record_keeps _ _)).trans (State.answer_keeps _ _ _ _)).trans
        (State.retest_keeps _)).trans (State.acceptStanding_keeps _)).of_next h
    · exact hquiet.of_next h

theorem execLockLimitExpiry_keeps {j : Fin 4} {s u : State} (h : execLockLimitExpiry j s = .next u) : s.Keeps u := by
  have hquiet := s.quiet_keeps
  unfold execLockLimitExpiry at h
  dsimp only at h
  split at h
  · exact hquiet.of_next h
  · split at h
    · have hfree : s.quiet.Keeps (s.quiet.setLock j none) := by
        refine s.quiet.withLocks_keeps fun k a ha => ?_
        rw [vector_set_apply] at ha
        split at ha
        · cases ha
        · exact ⟨a, ha, rfl⟩
      exact ((hquiet.trans hfree).trans (State.record_keeps _ _)).of_next h
    · exact hquiet.of_next h

theorem execCloseTimerExpiry_keeps {e : SourceId} {s u : State} (h : execCloseTimerExpiry e s = .next u) : s.Keeps u := by
  have hquiet := s.quiet_keeps
  unfold execCloseTimerExpiry at h
  dsimp only at h
  split at h
  · exact (hquiet.trans (State.setSource_keeps _ e _)).of_next h
  · exact hquiet.of_next h

theorem execSyncRisingEdge_keeps {i : Fin 2} {level : Bool} {s u : State} (h : execSyncRisingEdge i level s = .next u) : s.Keeps u := by
  have hquiet := s.quiet_keeps
  have hmoved : s.Keeps ((s.quiet.syncLevel i level).clearEdge i) :=
    (hquiet.trans (State.withPins_keeps _ _)).trans (State.withTiming_keeps _ _)
  unfold execSyncRisingEdge at h
  dsimp only at h
  split at h
  · exact (hmoved.trans (State.boundaryOf_keeps _ _)).of_next h
  · exact hmoved.of_next h

theorem execFrameOpen_keeps {s u : State} (h : execFrameOpen s = .next u) : s.Keeps u := by
  have hquiet := s.quiet_keeps
  unfold execFrameOpen at h
  dsimp only at h
  split at h
  · exact hquiet.of_next h
  · split at h
    · exact (hquiet.trans (State.withPins_keeps _ _)).of_next h
    · refine State.Keeps.of_next ?_ h
      refine (hquiet.trans (State.withPins_keeps _ _)).trans (State.withLink_keeps _ id fun _ => ?_)
      exact Link.serialConsistent_of_empty rfl rfl rfl

theorem execIdentifierByte_keeps {b : Byte} {s u : State} (h : execIdentifierByte b s = .next u) : s.Keeps u := by
  have hquiet := s.quiet_keeps
  unfold execIdentifierByte at h
  dsimp only at h
  split at h
  · rename_i hframe
    obtain ⟨hf, hbits, hindex, -⟩ := (s.quiet.byteFrame_eq_iff _ (by simp)).1 hframe
    refine State.Keeps.of_next ?_ h
    refine hquiet.trans (State.withLink_keeps _ id fun hs => ?_)
    have hmdo : s.link.mdo = none := Link.mdo_eq_none hs (by simp [show s.link.frame = .ident from hf])
    exact Link.serialConsistent_of_empty hbits hindex hmdo
  all_goals exact hquiet.of_next h

theorem execIndexBytes_keeps {hi lo : Byte} {s u : State} (h : execIndexBytes hi lo s = .next u) : s.Keeps u := by
  have hquiet := s.quiet_keeps
  unfold execIndexBytes at h
  dsimp only at h
  split at h
  · rename_i hframe
    obtain ⟨hf, hbits, hindex, -⟩ := (s.quiet.byteFrame_eq_iff _ (by simp)).1 hframe
    refine State.Keeps.of_next (hquiet.trans (.trans ?_ (State.present_keeps
        (s.quiet.withLink { s.quiet.link with frame := .read (hi ++ lo) }) (i := hi ++ lo) rfl _))) h
    refine State.withLink_keeps _ id fun hs => ?_
    have hmdo : s.link.mdo = none := Link.mdo_eq_none hs (by simp [show s.link.frame = .index .readFrame from hf])
    exact Link.serialConsistent_of_empty hbits hindex hmdo
  · rename_i hframe
    obtain ⟨hf, hbits, hindex, -⟩ := (s.quiet.byteFrame_eq_iff _ (by simp)).1 hframe
    refine State.Keeps.of_next ?_ h
    refine hquiet.trans (State.withLink_keeps _ id fun hs => ?_)
    have hmdo : s.link.mdo = none := Link.mdo_eq_none hs (by simp [show s.link.frame = .index .writeFrame from hf])
    exact Link.serialConsistent_of_empty hbits hindex hmdo
  all_goals exact hquiet.of_next h

theorem execFrameEnd_keeps {s u : State} (h : execFrameEnd s = .next u) : s.Keeps u := by
  have hquiet := s.quiet_keeps
  unfold execFrameEnd at h
  dsimp only at h
  split at h
  · refine State.Keeps.of_next ?_ h
    refine (hquiet.trans (State.withPins_keeps _ _)).trans (State.withLink_keeps _ id fun _ => ?_)
    exact Link.serialConsistent_of_empty rfl rfl rfl
  · exact hquiet.of_next h

theorem execHeadRecordRemoval_keeps {s u : State} (h : execHeadRecordRemoval s = .next u) : s.Keeps u := by
  have hquiet := s.quiet_keeps
  unfold execHeadRecordRemoval at h
  dsimp only at h
  split at h
  · rename_i i hframe
    obtain ⟨hf, -, -, -⟩ := (s.quiet.byteFrame_eq_iff _ (by simp)).1 hframe
    have hread : ((s.quiet.takeReadByte i)).link.frame = .read (i + 1) := rfl
    exact ((hquiet.trans (State.takeReadByte_keeps _ hf i)).trans (State.present_keeps _ hread _)).of_next h
  all_goals exact hquiet.of_next h

theorem execPwrupNFall_keeps {s u : State} (h : execPwrupNFall s = .next u) : s.Keeps u := by
  have hquiet := s.quiet_keeps
  unfold execPwrupNFall at h
  dsimp only at h
  split at h
  · exact hquiet.of_next h
  · exact (hquiet.trans (State.poweredOn_keeps _)).of_next h

theorem execPwrupNRelease_keeps {boot : Bool} {s u : State} (h : execPwrupNRelease boot s = .next u) : s.Keeps u := by
  have hquiet := s.quiet_keeps
  unfold execPwrupNRelease at h
  dsimp only at h
  have hline := hquiet.trans (s.quiet.withPins_keeps { s.quiet.pins with pwrupLow := false })
  split at h
  · exact hquiet.of_next h
  · split at h
    · exact (hline.trans (State.acceptStanding_keeps _)).of_next h
    · split at h
      · exact (hline.trans (State.withStartUp_keeps _ _)).of_next h
      · exact ((hline.trans (State.bootStart_keeps _)).trans (State.acceptStanding_keeps _)).of_next h

theorem execRstNFall_keeps {s u : State} (h : execRstNFall s = .next u) : s.Keeps u := by
  have hquiet := s.quiet_keeps
  unfold execRstNFall at h
  dsimp only at h
  have hline := hquiet.trans (s.quiet.withPins_keeps { s.quiet.pins with rstLow := true })
  split at h
  · exact hquiet.of_next h
  · split at h
    · exact hline.of_next h
    · exact (hline.trans (State.lineResetTaken_keeps _)).of_next h

theorem execRstNRelease_keeps {s u : State} (h : execRstNRelease s = .next u) : s.Keeps u := by
  have hquiet := s.quiet_keeps
  unfold execRstNRelease at h
  dsimp only at h
  have hline := hquiet.trans (s.quiet.withPins_keeps { s.quiet.pins with rstLow := false })
  split at h
  · exact hquiet.of_next h
  · split at h
    · exact hline.of_next h
    · exact ((hline.trans (State.lineReleased_keeps _)).trans (State.acceptStanding_keeps _)).of_next h

theorem execCommandCodeNamingNoCommand_keeps {code : Byte} {s u : State} (h : execCommandCodeNamingNoCommand code s = .next u) : s.Keeps u := by
  have hquiet := s.quiet_keeps
  unfold execCommandCodeNamingNoCommand at h
  split at h
  · exact hquiet.of_next h
  · exact (hquiet.trans (State.command_keeps _ _ State.noCommand_keeps)).of_next h

theorem exec_keeps {c : Instr} {s u : State} (h : exec c s = .next u) : s.Keeps u := by
  have hquiet := s.quiet_keeps
  cases c with
  | requestAcceptance r =>
    exact ((hquiet.trans (State.offer_keeps _ r)).trans (State.acceptStanding_keeps _)).of_next h
  | memGrant => exact execMemGrant_keeps h
  | memResponse k st data => exact execMemResponse_keeps h
  | memTimeout k => exact execMemTimeout_keeps h
  | fenceEnd k => exact execFenceEnd_keeps h
  | copierTake => exact execCopierTake_keeps h
  | holdLimitExpiry i => exact execHoldLimitExpiry_keeps h
  | lockLimitExpiry j => exact execLockLimitExpiry_keeps h
  | closeTimerExpiry e => exact execCloseTimerExpiry_keeps h
  | syncRisingEdge i level => exact execSyncRisingEdge_keeps h
  | enable => exact (hquiet.trans (State.command_keeps _ _ State.enableNamed_keeps)).of_next h
  | disable => exact (hquiet.trans (State.command_keeps _ _ State.disableNamed_keeps)).of_next h
  | suspend => exact (hquiet.trans (State.command_keeps _ _ State.suspendNamed_keeps)).of_next h
  | publish => exact (hquiet.trans (State.command_keeps _ _ State.publishNamed_keeps)).of_next h
  | rollback => exact (hquiet.trans (State.command_keeps _ _ State.rollbackNamed_keeps)).of_next h
  | boundary => exact (hquiet.trans (State.command_keeps _ _ State.boundaryByCommand_keeps)).of_next h
  | softReset => exact (hquiet.trans (State.command_keeps _ _ State.softResetByCommand_keeps)).of_next h
  | frameOpen => exact execFrameOpen_keeps h
  | identifierByte b => exact execIdentifierByte_keeps h
  | indexBytes hi lo => exact execIndexBytes_keeps h
  | frameEnd => exact execFrameEnd_keeps h
  | fieldWrite b => exact (hquiet.trans (State.byteAs_keeps _ _ _)).of_next h
  | windowConfigWrite b => exact (hquiet.trans (State.byteAs_keeps _ _ _)).of_next h
  | groupConfigWrite b => exact (hquiet.trans (State.byteAs_keeps _ _ _)).of_next h
  | holdWrite b => exact (hquiet.trans (State.byteAs_keeps _ _ _)).of_next h
  | closeDelayWrite b => exact (hquiet.trans (State.byteAs_keeps _ _ _)).of_next h
  | limitWrite b => exact (hquiet.trans (State.byteAs_keeps _ _ _)).of_next h
  | eventMaskWrite b => exact (hquiet.trans (State.byteAs_keeps _ _ _)).of_next h
  | overrunFlagClear => exact (hquiet.trans (State.byteAs_keeps _ _ _)).of_next h
  | writeRefusedFlagClear => exact (hquiet.trans (State.byteAs_keeps _ _ _)).of_next h
  | headRecordRemoval => exact execHeadRecordRemoval_keeps h
  | pwrupNFall => exact execPwrupNFall_keeps h
  | pwrupNRelease boot => exact execPwrupNRelease_keeps h
  | rstNFall => exact execRstNFall_keeps h
  | rstNRelease => exact execRstNRelease_keeps h
  | commandCodeNamingNoCommand code => exact execCommandCodeNamingNoCommand_keeps h

/-! ## Every step -/

theorem step_keeps {s t : State} (h : step s = .next t) : s.Keeps t := by
  unfold step at h
  split at h
  · exact (s.withPending_keeps _).trans (exec_keeps h)
  · unfold idleStep at h
    split at h
    · exact (s.quiet_keeps.trans (State.acceptStanding_keeps _)).of_next h
    · split at h
      · exact exec_keeps h
      · split at h
        · rename_i hedge
          exact (State.nextEdge_keeps hedge).of_next h
        · exact s.tick_keeps.of_next h

/-- Settles O7: the live-read counts are among the bounds that every step keeps. -/
theorem stepKeepsLiveReadCountsExact : Obligations.StepKeepsLiveReadCountsExact :=
  fun _ _ hcounts hstep => (step_keeps hstep).counts hcounts

/-- Settles O9: the other bounds that every step keeps. -/
theorem stepKeepsTablesWithinBounds : Obligations.StepKeepsTablesWithinBounds := by
  intro s t hstep
  have hkeeps := step_keeps hstep
  exact ⟨hkeeps.events, hkeeps.locks, hkeeps.demand, hkeeps.limits, hkeeps.share, hkeeps.sets, hkeeps.holds, hkeeps.serial⟩

end Sys2Proof.Machine
end

section
/-! Proofs about the waits of transfers (R107): each wait by its rule, and the target lines of the issue order (R106). -/

namespace Sys2Proof.Machine

open Sys2Proof

/-! ## Copies that a write would meet (R50) -/

theorem Copier.mem_record? {c : Copier} {k : CopyRecord} : k ∈ c.record? ↔ c = .busy k := by
  cases c <;> simp [Copier.record?]

theorem State.copyOn_eq_true (s : State) (a : Address) :
    s.copyOn a = true ↔ ∃ c : Fin 2, ∃ k ∈ s.carry.copiers[c].record?, k.source = a ∨ k.destination = a := by
  simp only [State.copyOn, List.any_eq_true, mem_places, true_and]
  refine exists_congr fun c => ?_
  cases s.carry.copiers[c] with
  | idle => simp [Copier.record?]
  | busy k => simp [Copier.record?]

theorem State.copyMeets_iff (s : State) (t : Transfer) : s.copyMeets t = true ↔ s.copyReaches t := by
  simp only [State.copyMeets, List.any_eq_true, State.copyOn_eq_true, State.copyReaches]
  constructor
  · rintro ⟨a, ha, c, k, hk, rfl | rfl⟩
    · exact ⟨c, k, hk, .inl ha⟩
    · exact ⟨c, k, hk, .inr ha⟩
  · rintro ⟨c, k, hk, ha | ha⟩
    · exact ⟨_, ha, c, k, hk, .inl rfl⟩
    · exact ⟨_, ha, c, k, hk, .inr rfl⟩

theorem State.copyMeets_eq_false (s : State) (t : Transfer) : s.copyMeets t = false ↔ ¬ s.copyReaches t := by
  rw [← s.copyMeets_iff, Bool.not_eq_true]

/-! ## The demand entry that a write needs (R37) -/

theorem State.stale_of_window {s : State} {t : Transfer} {w : WindowId} (h : t.window = some w) :
    s.stale t = s.windows[w].carry.contains (s.windows[w].lineIndex t.request.address) := by
  simp only [State.stale, h]

theorem State.stale_iff {s : State} {t : Transfer} {w : WindowId} (h : t.window = some w) :
    s.stale t = true ↔ s.windows[w].lineIndex t.request.address ∈ s.windows[w].carry := by
  rw [State.stale_of_window h, List.contains_iff_mem]

theorem State.demandNeed_some {s : State} {t : Transfer} {d : DemandEntry} :
    s.demandNeed t = some d ↔ ∃ w, s.needsEntry t w ∧ d = s.entryFor t w := by
  unfold State.demandNeed
  split
  · rename_i w hroute hwindow
    have hcond : (t.request.kind.isWrite && s.stale t && !s.copyMeets t && !t.request.wholeLine) = true ↔
        s.needsEntry t w := by
      simp only [Bool.and_eq_true, Bool.not_eq_true', State.stale_iff hwindow, State.copyMeets_eq_false, State.needsEntry,
        hroute, hwindow, true_and, and_assoc]
    constructor
    · intro h
      split at h
      · rename_i hc
        exact ⟨w, hcond.1 hc, (Option.some.inj h).symm⟩
      · cases h
    · rintro ⟨v, hneed, rfl⟩
      obtain rfl : w = v := Option.some.inj (hwindow.symm.trans hneed.1)
      rw [if_pos (hcond.2 hneed)]
      rfl
  · rename_i hne
    constructor
    · intro h; cases h
    · rintro ⟨w, ⟨hwindow, -, hroute, -⟩, -⟩
      exact absurd hwindow (hne w hroute)

theorem State.demandNeed_of_needsEntry {s : State} {t : Transfer} {w : WindowId} (h : s.needsEntry t w) :
    s.demandNeed t = some (s.entryFor t w) :=
  State.demandNeed_some.2 ⟨w, h, rfl⟩

/-- R38: a needed entry meets a queue full of other lines. -/
theorem State.demandFull_iff {s : State} {t : Transfer} {w : WindowId} (hwindow : t.window = some w) :
    s.demandFull t = true ↔ s.needsEntry t w ∧ 8 ≤ s.carry.demand.length ∧ s.entryFor t w ∉ s.carry.demand := by
  unfold State.demandFull
  cases hneed : s.demandNeed t with
  | none =>
    refine ⟨fun h => absurd h (by simp), fun ⟨h, _, _⟩ => ?_⟩
    rw [State.demandNeed_of_needsEntry h] at hneed
    cases hneed
  | some d =>
    obtain ⟨v, hv, rfl⟩ := State.demandNeed_some.1 hneed
    obtain rfl : w = v := Option.some.inj (hwindow.symm.trans hv.1)
    simp only [Bool.and_eq_true, Bool.not_eq_true', List.contains_eq_mem, decide_eq_false_iff_not, Config.demandCapacity]
    exact ⟨fun ⟨hmem, hfull⟩ => ⟨hv, of_decide_eq_true hfull, hmem⟩, fun ⟨_, hfull, hmem⟩ => ⟨hmem, decide_eq_true hfull⟩⟩

/-! ## Each wait by its rule (R107) -/

/-- The waits of the window unit, by the kind of wait. -/
theorem State.mem_windowWaits {s : State} {t : Transfer} {x : Wait} :
    x ∈ s.windowWaits t ↔ t.request.kind.isWrite = true ∧
      (x = .copyInFlight ∧ s.copyMeets t = true ∨
        (∃ d, s.demandNeed t = some d ∧
          (x = .demandLine ∧ d ∈ s.carry.demand ∨ x = .demandRoom ∧ d ∉ s.carry.demand)) ∨
        x = .drain ∧ ∃ w, t.window = some w ∧ s.draining w = true ∧
          (t.route = .shadowBank ∨ t.route = .bothBanks ∧ s.stale t = false)) := by
  unfold State.windowWaits
  by_cases hwrite : t.request.kind.isWrite = true
  · rw [if_pos hwrite]
    simp only [hwrite, true_and, List.mem_append, or_assoc]
    refine or_congr ?_ (or_congr ?_ ?_)
    · by_cases h : s.copyMeets t = true <;> simp [h]
    · cases s.demandNeed t with
      | none => simp
      | some d => by_cases h : d ∈ s.carry.demand <;> simp [h]
    · split
      · rename_i w hroute hwindow
        by_cases h : s.draining w = true <;> simp [h, hroute, hwindow]
      · rename_i w hroute hwindow
        by_cases h : s.draining w = true <;> by_cases hs : s.stale t = true <;> simp [h, hs, hroute, hwindow]
      · rename_i h1 h2
        refine ⟨fun h => absurd h (by simp), ?_⟩
        rintro ⟨-, w, hwindow, -, hroute | ⟨hroute, -⟩⟩
        · exact absurd hwindow (h1 w hroute)
        · exact absurd hwindow (h2 w hroute)
  · rw [if_neg hwrite]
    simp [hwrite]

theorem State.mem_waits {s : State} {t : Transfer} {x : Wait} :
    x ∈ s.waits t ↔ x ∈ s.windowWaits t ∨ x = .issueOrder ∧ s.orderHeld t = true := by
  unfold State.waits
  by_cases h : s.orderHeld t = true <;> simp [h]

theorem State.copyInFlight_mem_waits (s : State) (t : Transfer) :
    .copyInFlight ∈ s.waits t ↔ t.request.kind.isWrite = true ∧ s.copyReaches t := by
  simp [State.mem_waits, State.mem_windowWaits, State.copyMeets_iff]

theorem State.draining_eq_true (s : State) (w : WindowId) :
    s.draining w = true ↔ s.windows[w].liveReads s.windows[w].live.other ≠ 0 := by
  simp only [State.draining, Window.shadow]
  exact decide_eq_true_iff

theorem State.drain_mem_waits (s : State) (t : Transfer) :
    .drain ∈ s.waits t ↔ ∃ w, (t.window = some w ∧ t.request.kind.isWrite = true) ∧
      s.windows[w].liveReads s.windows[w].live.other ≠ 0 ∧
      (t.route = .shadowBank ∨ t.route = .bothBanks ∧
        ¬ s.windows[w].carry.contains (s.windows[w].lineIndex t.request.address) = true) := by
  simp only [State.mem_waits, State.mem_windowWaits, State.draining_eq_true]
  simp only [reduceCtorEq, false_and, or_false, and_false, exists_false, false_or, true_and]
  constructor
  · rintro ⟨hwrite, w, hwindow, hdrain, hroute⟩
    rw [State.stale_of_window hwindow, ← Bool.not_eq_true] at hroute
    exact ⟨w, ⟨hwindow, hwrite⟩, hdrain, hroute⟩
  · rintro ⟨w, ⟨hwindow, hwrite⟩, hdrain, hroute⟩
    rw [Bool.not_eq_true, ← State.stale_of_window hwindow] at hroute
    exact ⟨hwrite, w, hwindow, hdrain, hroute⟩

theorem State.demandLine_mem_waits (s : State) (t : Transfer) :
    .demandLine ∈ s.waits t ↔ ∃ w, s.needsEntry t w ∧ s.entryFor t w ∈ s.carry.demand := by
  simp only [State.mem_waits, State.mem_windowWaits, State.demandNeed_some]
  simp only [reduceCtorEq, false_and, or_false, false_or, true_and]
  constructor
  · rintro ⟨-, d, ⟨w, hneed, rfl⟩, hmem⟩
    exact ⟨w, hneed, hmem⟩
  · rintro ⟨w, hneed, hmem⟩
    exact ⟨hneed.2.1, _, ⟨w, hneed, rfl⟩, hmem⟩

theorem State.demandRoom_mem_waits (s : State) (t : Transfer) :
    .demandRoom ∈ s.waits t ↔ ∃ w, s.needsEntry t w ∧ s.entryFor t w ∉ s.carry.demand := by
  simp only [State.mem_waits, State.mem_windowWaits, State.demandNeed_some]
  simp only [reduceCtorEq, false_and, or_false, false_or, true_and]
  constructor
  · rintro ⟨-, d, ⟨w, hneed, rfl⟩, hmem⟩
    exact ⟨w, hneed, hmem⟩
  · rintro ⟨w, hneed, hmem⟩
    exact ⟨hneed.2.1, _, ⟨w, hneed, rfl⟩, hmem⟩

/-- R106: the exception, spelled out. -/
theorem State.drainsAsRead_iff (s : State) (t : Transfer) :
    s.drainsAsRead t = true ↔ ∃ w, t.window = some w ∧ t.countedBank = some s.windows[w].live.other := by
  unfold State.drainsAsRead
  split
  · rename_i w b hwindow hbank
    simp only [decide_eq_true_eq, hwindow, hbank, Option.some.injEq, exists_eq_left']
    exact eq_comm
  · rename_i h
    refine ⟨fun h => absurd h (by simp), ?_⟩
    rintro ⟨w, hwindow, hbank⟩
    exact absurd hbank (h w _ hwindow)

theorem State.heldBehind_iff (s : State) (o t : Transfer) :
    s.heldBehind o t = true ↔ o.acceptance < t.acceptance ∧ (∃ l ∈ s.targetLines o, l ∈ s.targetLines t) ∧
      ¬ (o.request.kind.isWrite = true ∧ ∃ w, t.window = some w ∧ t.countedBank = some s.windows[w].live.other) := by
  simp only [State.heldBehind, Bool.and_eq_true, decide_eq_true_eq, List.any_eq_true, List.contains_iff_mem,
    Bool.not_eq_true', ← State.drainsAsRead_iff, and_assoc, ← Bool.not_eq_true]
  tauto

theorem State.orderHeld_iff (s : State) (t : Transfer) :
    s.orderHeld t = true ↔ ∃ i : Fin 8, ∃ o, s.port.slots[i] = some o ∧ s.heldBehind o t = true := by
  simp only [State.orderHeld, List.any_eq_true, mem_places, true_and]
  refine exists_congr fun i => ?_
  cases s.port.slots[i] <;> simp

theorem State.issueOrder_mem_waits (s : State) (t : Transfer) :
    .issueOrder ∈ s.waits t ↔ ∃ i : Fin 8, ∃ o, s.port.slots[i] = some o ∧ o.acceptance < t.acceptance ∧
      (∃ l ∈ s.targetLines o, l ∈ s.targetLines t) ∧
      ¬ (o.request.kind.isWrite = true ∧ ∃ w, t.window = some w ∧ t.countedBank = some s.windows[w].live.other) := by
  simp only [State.mem_waits, State.mem_windowWaits, State.orderHeld_iff, State.heldBehind_iff]
  simp

/-! ## Target lines (R106) -/

theorem State.targetLines_of_unissued {s : State} {t : Transfer} (h : t.phase ≠ .issued) :
    s.targetLines t = match t.readAddress with
      | some a => [lineOfAddress a]
      | none => s.writeTargets t := by
  unfold State.targetLines
  cases hp : t.phase with
  | issued => exact absurd hp h
  | waiting => rfl
  | ready => rfl

theorem State.targetLines_of_issued {s : State} {t : Transfer} (h : t.phase = .issued) :
    s.targetLines t = if t.shadowPresented then t.issuedLines else [] := by
  simp only [State.targetLines, h]

theorem Transfer.shadowPresented_eq_false {t : Transfer} (h : ∀ b a, t.shadow ≠ .presented b a) :
    t.shadowPresented = false := by
  unfold Transfer.shadowPresented
  cases hs : t.shadow with
  | presented b a => exact absurd hs (h b a)
  | absent => rfl
  | outstanding a => rfl
  | answered a ok => rfl

/-- R94: a whole-line write. -/
theorem Request.wholeLine_iff (r : Request) : r.wholeLine = true ↔
    r.kind = .write ∧ r.beats = 8 ∧ r.address.toNat % 64 = 0 ∧ r.lanes = List.replicate 8 0xFF := by
  simp only [Request.wholeLine, Bool.and_eq_true, decide_eq_true_eq, and_assoc]

/-! ## After a test (R38) -/

/-- R37, R38: the step of one slot in the walk that makes the demand entries. -/
def State.makeEntryOf (s : State) (i : Fin 8) : State :=
  match s.port.slots[i] with
  | none => s
  | some t => if t.unissued then s.makeEntry t else s

theorem State.makeEntries_eq (s : State) : s.makeEntries = s.slotsByAge.foldl State.makeEntryOf s := rfl

/-- What the demand need of a transfer reads is left by the walk that makes entries. -/
theorem State.demandNeed_congr {s t : State} (hwindows : t.windows = s.windows) (hcopiers : t.carry.copiers = s.carry.copiers)
    (u : Transfer) : t.demandNeed u = s.demandNeed u := by
  have hcopyOn : t.copyOn = s.copyOn := by funext a; simp only [State.copyOn, hcopiers]
  have htargets : t.writeTargets u = s.writeTargets u := by simp only [State.writeTargets, hwindows]
  have hmeets : t.copyMeets u = s.copyMeets u := by simp only [State.copyMeets, hcopyOn, htargets]
  have hstale : t.stale u = s.stale u := by simp only [State.stale, hwindows]
  simp only [State.demandNeed, hstale, hmeets, hwindows]

/-- R37: the step of a slot changes nothing but the demand queue, at whose tail it adds. -/
theorem State.makeEntryOf_frame (s : State) (i : Fin 8) :
    (s.makeEntryOf i).windows = s.windows ∧ (s.makeEntryOf i).carry.copiers = s.carry.copiers ∧
      (s.makeEntryOf i).port = s.port ∧ s.carry.demand <+: (s.makeEntryOf i).carry.demand := by
  unfold State.makeEntryOf
  split
  · exact ⟨rfl, rfl, rfl, List.prefix_rfl⟩
  · split
    · exact ⟨by simp, by simp, by simp, s.makeEntry_prefix _⟩
    · exact ⟨rfl, rfl, rfl, List.prefix_rfl⟩

/-- R38: an entry is in the queue, or the queue is full. -/
def State.entryOrFull (s : State) (d : DemandEntry) : Prop :=
  d ∈ s.carry.demand ∨ Config.demandCapacity ≤ s.carry.demand.length

theorem State.makeEntry_entryOrFull {s : State} {t : Transfer} {d : DemandEntry} (h : s.demandNeed t = some d) :
    (s.makeEntry t).entryOrFull d := by
  unfold State.makeEntry
  simp only [h]
  split
  · rename_i hc
    simpa [State.entryOrFull] using hc
  · exact .inl (by simp)

theorem State.makeEntryOf_entryOrFull {s : State} {d : DemandEntry} (h : s.entryOrFull d) (i : Fin 8) :
    (s.makeEntryOf i).entryOrFull d := by
  obtain ⟨-, -, -, hprefix⟩ := s.makeEntryOf_frame i
  rcases h with h | h
  · exact .inl (hprefix.subset h)
  · exact .inr (h.trans hprefix.length_le)

theorem State.makeEntryWalk_entryOrFull {i : Fin 8} {t : Transfer} {d : DemandEntry} (hunissued : t.unissued = true)
    {l : List (Fin 8)} (hi : i ∈ l) (s : State) (hslot : s.port.slots[i] = some t) (hneed : s.demandNeed t = some d) :
    (l.foldl State.makeEntryOf s).entryOrFull d := by
  induction l generalizing s with
  | nil => cases hi
  | cons j l ih =>
    rw [List.foldl_cons]
    rcases List.mem_cons.1 hi with rfl | hi
    · have hmade : (s.makeEntryOf i).entryOrFull d := by
        simp only [State.makeEntryOf, hslot, hunissued, if_true]
        exact State.makeEntry_entryOrFull hneed
      exact foldl_keeps (State.entryOrFull · d) _ (fun a j h => State.makeEntryOf_entryOrFull h j) l _ hmade
    · obtain ⟨hwindows, hcopiers, hport, -⟩ := s.makeEntryOf_frame j
      exact ih hi _ (hport ▸ hslot) ((State.demandNeed_congr hwindows hcopiers t).trans hneed)

/-- R38: after the entries are made, each write not yet issued that needs one has it, or the queue is full. -/
theorem State.makeEntries_entryOrFull {s : State} {i : Fin 8} {t : Transfer} {d : DemandEntry}
    (hslot : s.port.slots[i] = some t) (hunissued : t.unissued = true) (hneed : s.demandNeed t = some d) :
    s.makeEntries.entryOrFull d :=
  State.makeEntryWalk_entryOrFull hunissued ((s.mem_slotsByAge i).2 (by rw [hslot]; rfl)) s hslot hneed

/-- A transfer not yet issued that a test leaves in its slot was there, not yet issued, before. -/
theorem State.retest_slot_unissued {s : State} {i : Fin 8} {t : Transfer} (h : s.retest.port.slots[i] = some t)
    (hunissued : t.phase ≠ .issued) :
    ∃ u, s.port.slots[i] = some u ∧ t = s.makeEntries.testedTransfer u ∧ u.unissued = true := by
  rw [State.retest_slots] at h
  obtain ⟨u, hu, rfl⟩ := Option.map_eq_some_iff.1 h
  refine ⟨u, hu, rfl, ?_⟩
  by_contra hn
  have hissued : u.phase = .issued := by simpa [Transfer.unissued] using hn
  rw [s.makeEntries.testedTransfer_issued u hissued] at hunissued
  exact hunissued hissued

/-- R38: after a test, a wait for room stands only while the queue is full. -/
theorem State.retest_full_of_demandRoom {s : State} {i : Fin 8} {t : Transfer} (h : s.retest.port.slots[i] = some t)
    (hunissued : t.phase ≠ .issued) (hroom : .demandRoom ∈ s.retest.waits t) : 8 ≤ s.retest.carry.demand.length := by
  obtain ⟨u, hu, rfl, huu⟩ := State.retest_slot_unissued h hunissued
  have hwaits : s.retest.waits (s.makeEntries.testedTransfer u) = s.makeEntries.waits u :=
    s.makeEntries.waits_testPhases u
  rw [hwaits, State.demandRoom_mem_waits] at hroom
  obtain ⟨w, hneed, hmem⟩ := hroom
  have hneed' : s.demandNeed u = some (s.makeEntries.entryFor u w) :=
    (State.demandNeed_congr (s := s) (by simp) (by simp) u).symm.trans (State.demandNeed_of_needsEntry hneed)
  rcases State.makeEntries_entryOrFull hu huu hneed' with h | h
  · exact absurd h hmem
  · exact h

/-- Settles O15: each wait by its rule, the target lines by phase and route, and the phase after a test. -/
theorem eachWaitHoldsByItsRule : Obligations.EachWaitHoldsByItsRule := by
  refine ⟨fun s t => ?_, fun s t => ?_, Request.wholeLine_iff, fun s i t hslot hunissued => ⟨?_, ?_⟩⟩
  · exact ⟨s.copyInFlight_mem_waits t, s.drain_mem_waits t, s.demandLine_mem_waits t, s.demandRoom_mem_waits t,
      s.issueOrder_mem_waits t⟩
  · refine ⟨fun a hp ha => ?_, fun hp ha => ?_, fun b a hp hs => ?_, fun hp hs => ?_, fun hw => ?_, fun w hw => ?_⟩
    · simp only [State.targetLines_of_unissued hp, ha]
    · simp only [State.targetLines_of_unissued hp, ha]
    · simp only [State.targetLines_of_issued hp, Transfer.shadowPresented, hs, if_true]
    · rw [State.targetLines_of_issued hp, Transfer.shadowPresented_eq_false hs]
      rfl
    · simp only [State.writeTargets, hw]
    · refine ⟨fun hr => ?_, fun hr => ?_, fun hr => ?_⟩ <;> simp only [State.writeTargets, hw, hr] <;> rfl
  · exact s.retest_transfersTested i t hslot (by simpa [Transfer.unissued] using hunissued)
  · exact State.retest_full_of_demandRoom hslot hunissued

end Sys2Proof.Machine
end

section
/-! Proofs about acceptance: the place of an address and the interlock test (R7, R117 to R123), the answers in check order (R99
to R104), and routing (R6, R10 to R20). -/

namespace Sys2Proof.Machine

open Sys2Proof

/-! ## The place of an address (R7) -/

/-- R7: the first window that takes part with the address in a range. -/
def State.windowAt (s : State) (a : Address) : Option WindowId :=
  (placesWhere (fun r => decide (r.state ≠ .disabled) && r.inRanges a) s.windows).head?

theorem State.place_eq (s : State) (a : Address) : s.place a = match s.windowAt a with
    | none => .miss
    | some w => if s.windows[w].inHome a then .home w else .twin w := rfl

theorem Window.takesAddress_eq_false {x : Window} {a : Address} :
    (decide (x.state ≠ .disabled) && x.inRanges a) = false ↔ x.state = .disabled ∨ x.inRanges a = false := by
  simp [Decidable.or_iff_not_imp_left]

theorem State.windowAt_none {s : State} {a : Address} :
    s.windowAt a = none ↔ ∀ w : WindowId, s.windows[w].state = .disabled ∨ s.windows[w].inRanges a = false := by
  rw [State.windowAt, placesWhere_head_none]
  exact forall_congr' fun w => Window.takesAddress_eq_false

theorem State.windowAt_some {s : State} {a : Address} {w : WindowId} :
    s.windowAt a = some w ↔ s.windows[w].state ≠ .disabled ∧ s.windows[w].inRanges a = true ∧
      ∀ v : WindowId, v < w → s.windows[v].state = .disabled ∨ s.windows[v].inRanges a = false := by
  rw [State.windowAt, placesWhere_head_some, Bool.and_eq_true, decide_eq_true_eq, and_assoc]
  exact and_congr Iff.rfl (and_congr Iff.rfl (forall_congr' fun v => forall_congr' fun _ => Window.takesAddress_eq_false))

theorem State.place_miss_iff {s : State} {a : Address} : s.place a = .miss ↔ s.windowAt a = none := by
  rw [State.place_eq]
  cases s.windowAt a with
  | none => simp
  | some w =>
    dsimp only
    split <;> simp

theorem State.place_home_iff {s : State} {a : Address} {w : WindowId} :
    s.place a = .home w ↔ s.windowAt a = some w ∧ s.windows[w].inHome a = true := by
  rw [State.place_eq]
  cases s.windowAt a with
  | none => simp
  | some v =>
    dsimp only
    split
    · rename_i h
      simp only [Place.home.injEq, Option.some.injEq]
      exact ⟨fun e => ⟨e, e ▸ h⟩, fun e => e.1⟩
    · rename_i h
      simp only [reduceCtorEq, Option.some.injEq, false_iff]
      exact fun e => h (e.1 ▸ e.2)

theorem State.place_twin_iff {s : State} {a : Address} {w : WindowId} :
    s.place a = .twin w ↔ s.windowAt a = some w ∧ s.windows[w].inHome a = false := by
  rw [State.place_eq]
  cases s.windowAt a with
  | none => simp
  | some v =>
    dsimp only
    split
    · rename_i h
      simp only [reduceCtorEq, Option.some.injEq, false_iff]
      exact fun e => Bool.false_ne_true (e.2.symm.trans (e.1 ▸ h))
    · rename_i h
      simp only [Place.twin.injEq, Option.some.injEq]
      exact ⟨fun e => ⟨e, e ▸ Bool.eq_false_iff.2 h⟩, fun e => e.1⟩

/-! ## The interlock test (R117 to R123) -/

/-- R116, R117: where entries are on distinct lines, the entry on the line of an address is the one that covers it. -/
theorem State.lockOn_of_line {s : State} {a : Address} {j : Fin 4} {l : Lock} (hdistinct : s.locksDistinct)
    (hl : s.locks[j] = some l) (hline : l.line = lineOfAddress a) : s.lockOn a = some j := by
  cases hon : s.lockOn a with
  | none => exact absurd hline (State.lockOn_none.1 hon j l hl)
  | some k =>
    obtain ⟨m, hm, hmline⟩ := State.lockOn_some hon
    rw [hdistinct k j m hm l hl (hmline.trans hline.symm)]

theorem State.lockTest_of_entry {s : State} {r : Request} {j : Fin 4} {l : Lock} (hon : s.lockOn r.address = some j)
    (hl : s.locks[j] = some l) : s.lockTest r =
      if l.master ≠ r.master then .retry
      else match r.kind with
        | .unlockWrite => if l.claim = none then .claims j l else .orphan
        | .read | .write | .lockedRead => .routed := by
  unfold State.lockTest
  simp only [hon, hl] <;> rfl

theorem State.lockTest_of_none {s : State} {r : Request} (hon : s.lockOn r.address = none) : s.lockTest r =
    match r.kind with
    | .lockedRead => if s.freeLock = none then .retry else .routed
    | .unlockWrite => .orphan
    | .read | .write => .routed := by
  unfold State.lockTest
  simp only [hon] <;> rfl

/-- Settles O12: the place by the first window that takes part, and the interlock test by the entry on the line. -/
theorem placeAndInterlockTestsFollowTables : Obligations.PlaceAndInterlockTestsFollowTables := by
  refine ⟨fun s a => ⟨?_, fun w => ?_, fun w h => ?_, fun w h => ?_⟩, fun s r hdistinct => ⟨fun j l hl hline => ?_, fun hnone => ?_⟩⟩
  · rw [State.place_miss_iff, State.windowAt_none]
  · rw [State.place_home_iff, State.place_twin_iff, ← State.windowAt_some]
    cases s.windows[w].inHome a <;> simp
  · exact (State.place_home_iff.1 h).2
  · obtain ⟨hat, hhome⟩ := State.place_twin_iff.1 h
    obtain ⟨-, hin, -⟩ := State.windowAt_some.1 hat
    refine ⟨hhome, ?_⟩
    rw [Window.inRanges, hhome, Bool.false_or] at hin
    exact hin
  · have htest := State.lockTest_of_entry (State.lockOn_of_line hdistinct hl hline) hl
    refine ⟨fun hm => ?_, fun hm hk => ?_, fun hm hk hc => ?_, fun hm hk hc => ?_⟩ <;> rw [htest]
    · rw [if_pos hm]
    · rw [if_neg (not_not.2 hm)]
      cases hkind : r.kind with
      | unlockWrite => exact absurd hkind hk
      | read => rfl
      | write => rfl
      | lockedRead => rfl
    · rw [if_neg (not_not.2 hm), hk]
      exact if_pos hc
    · rw [if_neg (not_not.2 hm), hk]
      exact if_neg hc
  · have htest := State.lockTest_of_none (State.lockOn_none.2 hnone)
    refine ⟨fun hk => ?_, fun hk => ?_, fun hk hfull => ?_, fun hk hfree => ?_⟩ <;> rw [htest]
    · rcases hk with hk | hk <;> rw [hk]
    · rw [hk]
    · rw [hk]
      exact if_pos (State.freeLock_none.2 hfull)
    · rw [hk]
      refine if_neg fun hn => ?_
      obtain ⟨j, hj⟩ := hfree
      exact State.freeLock_none.1 hn j hj

/-! ## The answers in check order (R99 to R104) -/

theorem vector_set_getElem {α : Type} {n : Nat} (v : Vector α n) (i : Fin n) : v.set i v[i] = v := by
  refine Vector.ext fun j hj => ?_
  by_cases h : (i : Nat) = j
  · subst h; simp
  · rw [Vector.getElem_set_ne _ _ h]

/-- Writing back what an entry holds changes nothing. -/
theorem State.setLock_same {s : State} {j : Fin 4} {x : Option Lock} (h : s.locks[j] = x) : s.setLock j x = s := by
  subst h
  show s.withLocks (s.locks.set j s.locks[j]) = s
  rw [vector_set_getElem]
  rfl

/-- A claim lifted from an entry that had none leaves it as it was. -/
theorem Lock.settled_retry_of_unclaimed {l : Lock} (h : l.claim = none) (tag : Fin 32) :
    ({ l with claim := some tag } : Lock).settled .retry = some l := by
  cases l
  subst h
  rfl

theorem State.recordAll_respond_locks (s : State) (x : Option EventRecord) (r : Request) (st : Status) (data : List Beat) :
    ((s.recordAll x).respond r st data).locks = s.locks := by
  cases x <;> rfl

/-- Settles O10: the checks of acceptance one after the other, then the answers that routing gives. -/
theorem refusedRequestsAreAnsweredInCheckOrder : Obligations.RefusedRequestsAreAnsweredInCheckOrder := by
  intro s i r htakes
  have hexec := exec_requestAcceptance_of_takes htakes r
  refine ⟨fun hboot => ?_, fun hboot hpair => ?_, fun hboot hpair halign => ?_, fun hport w hplace => ?_,
    fun hport htwin hlock => ?_, fun hport htwin hlock => ?_, fun hport htwin hlock hkind st x hroute => ?_,
    fun hport htwin hdistinct j l hclaims st x hroute => ⟨fun hst => ?_, fun hst => ?_⟩⟩
  · have hb : s.accepted.bootInProgress = true := hboot
    rw [hexec, State.checkRequest, if_pos hb]
  · have hb : s.accepted.bootInProgress = false := hboot
    have hp : s.accepted.outstanding r = true := hpair
    rw [hexec, State.checkRequest, if_neg (by simp [hb]), if_pos hp]
  · have hb : s.accepted.bootInProgress = false := hboot
    have hp : s.accepted.outstanding r = false := hpair
    rw [hexec, State.checkRequest, if_neg (by simp [hb]), if_neg (by simp [hp]), if_pos (by simp [halign])]
  · obtain ⟨hboot, hpair, halign⟩ := hport
    have hb : s.accepted.bootInProgress = false := hboot
    have hp : s.accepted.outstanding r = false := hpair
    have hw : s.accepted.place r.address = .twin w := hplace
    rw [hexec, State.checkRequest, if_neg (by simp [hb]), if_neg (by simp [hp]), if_neg (by simp [halign])]
    simp only [hw]
  · rw [exec_requestAcceptance_of_passes htakes hport htwin, State.interlockAndRoute]
    simp only [State.accepted_lockTest, hlock]
  · rw [exec_requestAcceptance_of_passes htakes hport htwin, State.interlockAndRoute]
    simp only [State.accepted_lockTest, hlock]
  · exact exec_requestAcceptance_of_answer htakes hport htwin hlock hkind hroute
  · subst hst
    obtain ⟨hl, -, -, -, hclaim⟩ := State.lockTest_claims hclaims
    refine ⟨hclaim, hl, ?_⟩
    rw [exec_requestAcceptance_of_claimed_answer htakes hport htwin hdistinct hclaims hroute,
      Lock.settled_retry_of_unclaimed hclaim, State.setLock_same]
    exact (congrArg (fun v : Vector (Option Lock) 4 => v[j]) (s.accepted.recordAll_respond_locks x r .retry [])).trans hl
  · rw [exec_requestAcceptance_of_claimed_answer htakes hport htwin hdistinct hclaims hroute,
      Lock.settled_of_ne_retry _ hst]

/-! ## Routing (R6, R10 to R20, R61) -/

theorem State.roleIn_producer {s : State} {w : WindowId} {m : MasterId} : s.roleIn w m = .producer ↔
    s.groups[s.windows[w].group].producers.getLsbD m.val = true := by
  unfold State.roleIn inProducers
  split <;> simp_all

theorem State.roleIn_consumer {s : State} {w : WindowId} {m : MasterId} : s.roleIn w m = .consumer ↔
    s.groups[s.windows[w].group].producers.getLsbD m.val = false := by
  unfold State.roleIn inProducers
  split <;> simp_all

/-- R61: a beat with an enabled lane lies at a word. -/
theorem Request.touchesWord_iff (r : Request) (a : Address) : r.touchesWord a = true ↔
    ∃ j, j < r.beats ∧ r.address + BitVec.ofNat 32 (8 * j) = a ∧ r.lanes.getD j 0 ≠ 0 := by
  simp only [Request.touchesWord, Request.beatAddress, List.any_eq_true, List.mem_range, Bool.and_eq_true]
  exact exists_congr fun j => and_congr Iff.rfl (and_congr decide_eq_true_iff decide_eq_true_iff)

theorem State.triggerMatch_iff {s : State} {w : WindowId} {r : Request} {g : GroupId} :
    s.triggerMatch w r = some g ↔ s.windows[w].group = g ∧ ∃ v ∈ s.groups[g].trigger, v.window = w ∧
      ∃ j, j < r.beats ∧ r.address + BitVec.ofNat 32 (8 * j) = s.windows[w].base + BitVec.ofNat 32 (8 * v.offset) ∧
        r.lanes.getD j 0 ≠ 0 := by
  unfold State.triggerMatch
  dsimp only
  split
  · rename_i htrigger
    refine ⟨fun h => absurd h (by simp), ?_⟩
    rintro ⟨rfl, v, hv, -⟩
    rw [htrigger] at hv
    cases hv
  · rename_i x htrigger
    simp only [← Request.touchesWord_iff]
    constructor
    · intro h
      split at h
      · rename_i hc
        obtain ⟨hw, ht⟩ : x.window = w ∧ _ := by simpa using hc
        cases h
        exact ⟨rfl, x, htrigger, hw, ht⟩
      · cases h
    · rintro ⟨rfl, v, hv, hw, ht⟩
      rw [htrigger] at hv
      cases hv
      rw [if_pos (by rw [Bool.and_eq_true]; exact ⟨decide_eq_true hw, ht⟩)]

theorem State.routing_of_home {s : State} {r : Request} {w : WindowId} (h : s.place r.address = .home w) (n : Nat) :
    s.routing r n = s.routeHome r n w := by
  simp only [State.routing, h]

theorem State.routing_of_servesTwo {s : State} {r : Request} {w : WindowId} (h : s.place r.address = .home w)
    (hstate : s.windows[w].state = .seeding ∨ s.windows[w].state = .active) (n : Nat) :
    s.routing r n = s.routeTwoBanks r n w := by
  rw [State.routing_of_home h]
  refine State.routeHome_of_servesTwo ?_ r n
  rcases hstate with h | h <;> rw [h] <;> rfl

theorem TransferKind.isWrite_of_read {k : TransferKind} (h : k = .read ∨ k = .lockedRead) : k.isWrite = false := by
  rcases h with rfl | rfl <;> rfl

/-- Settles O13: routing by the place, the state, the role and the kind, branch by branch. -/
theorem routingFollowsStateAndRole : Obligations.RoutingFollowsStateAndRole := by
  intro s r n w x live shadow readAt role stale
  refine ⟨State.roleIn_producer, State.roleIn_consumer, fun hmiss => ?_, fun hhome => ⟨fun hs => ?_, fun hs hw => ?_,
    fun hs hw => ?_, fun hs hw => ?_, fun hs => ?_⟩⟩
  · simp only [State.routing, hmiss, routeMiss]
    rfl
  · rw [State.routing_of_home hhome, State.routeHome]
    simp only [show s.windows[w].state = .suspended from hs, State.routeLive]
    rfl
  · rw [State.routing_of_home hhome, State.routeHome]
    simp only [show s.windows[w].state = .homing from hs, hw, if_true]
  · rw [State.routing_of_home hhome, State.routeHome]
    simp only [show s.windows[w].state = .faulted from hs, hw, if_true]
  · rw [State.routing_of_home hhome, State.routeHome]
    rcases hs with hs | hs
    · simp only [show s.windows[w].state = .homing from hs, hw, Bool.false_eq_true, if_false, State.routeLive]
      rfl
    · simp only [show s.windows[w].state = .faulted from hs, hw, Bool.false_eq_true, if_false, State.routeLive]
      rfl
  · have hroute := State.routing_of_servesTwo hhome hs n
    have htwo {k : Role} {b : Bool} (hrole : role = k) (hw : r.kind.isWrite = b) : s.routing r n = match (generalizing := false) k, b with
        | .consumer, false => s.routeConsumerRead r n w
        | .consumer, true => s.routeConsumerWrite r n w
        | .producer, false => s.routeProducerRead r n w
        | .producer, true => s.routeProducerWrite r n w := by
      subst hrole hw
      exact hroute
    refine ⟨fun hrole hkind hpolicy => ?_, fun hrole hkind => ?_, fun hrole hw hstale => ?_, fun hrole hw hstale => ?_,
      fun hrole hw hpolicy => ?_, fun hrole hw hpolicy => ?_, fun hrole hw hpolicy => ?_, fun hrole hw => ?_⟩
    · rw [htwo hrole (TransferKind.isWrite_of_read (.inr hkind))]
      exact if_pos (by rw [Bool.and_eq_true]; exact ⟨decide_eq_true hkind, decide_eq_true hpolicy⟩)
    · rw [htwo hrole (TransferKind.isWrite_of_read (hkind.imp_right And.left))]
      refine if_neg fun h => ?_
      rw [Bool.and_eq_true, decide_eq_true_eq, decide_eq_true_eq] at h
      rcases hkind with hk | ⟨-, hp⟩
      · exact absurd (hk.symm.trans h.1) (by decide)
      · exact hp h.2
    · rw [htwo hrole hw]
      exact if_pos hstale
    · rw [htwo hrole hw]
      exact if_neg (Bool.eq_false_iff.1 hstale)
    · rw [htwo hrole hw]
      simp only [State.routeConsumerWrite, show s.windows[w].policy = .error from hpolicy]
    · rw [htwo hrole hw]
      simp only [State.routeConsumerWrite, show s.windows[w].policy = .drop from hpolicy]
    · rw [htwo hrole hw]
      simp only [State.routeConsumerWrite, show s.windows[w].policy = .both from hpolicy]
    · intro u
      have hfull := State.demandFull_iff (s := s) (t := u) (w := w) rfl
      refine ⟨fun g => State.triggerMatch_iff, ?_⟩
      intro full
      refine ⟨fun h => ?_, fun h => ?_⟩ <;> rw [htwo hrole hw]
      · exact if_pos (hfull.2 h)
      · exact if_neg fun hf => h (hfull.1 hf)

end Sys2Proof.Machine
end

section
/-! Proofs about the requests that routing keeps (R97, R98, R103, R119 to R121, R37). -/

namespace Sys2Proof.Machine

open Sys2Proof

/-! ## What routing keeps -/

/-- R34: a write is in no live-read count. -/
theorem State.routing_countedBank {s : State} {r : Request} {n : Nat} {t : Transfer} (h : s.routing r n = .keep t)
    (hwrite : r.kind.isWrite = true) : t.countedBank = none := by
  have htwo {w : WindowId} (h : s.routeTwoBanks r n w = .keep t) : t.countedBank = none := by
    unfold State.routeTwoBanks State.routeConsumerWrite State.routeProducerWrite at h
    rw [hwrite] at h
    dsimp only at h
    cases hrole : s.roleIn w r.master <;> rw [hrole] at h <;> dsimp only at h <;> split at h <;> cases h <;> rfl
  unfold State.routing at h
  split at h
  · unfold State.routeHome at h
    split at h
    · cases h; rfl
    · exact htwo h
    · exact htwo h
    · rw [if_pos hwrite] at h; cases h
    · cases h; rfl
    · rw [if_pos hwrite] at h; cases h
  · cases h; rfl
  · cases h; rfl

/-- R38: a write kept for the shadow bank meets no full queue. -/
theorem State.routing_demandFull {s : State} {r : Request} {n : Nat} {t : Transfer} (h : s.routing r n = .keep t)
    (hwrite : r.kind.isWrite = true) (hroute : t.route = .shadowBank) : s.demandFull t = false := by
  have htwo {w : WindowId} (h : s.routeTwoBanks r n w = .keep t) : s.demandFull t = false := by
    unfold State.routeTwoBanks at h
    rw [hwrite] at h
    cases hrole : s.roleIn w r.master <;> rw [hrole] at h <;> dsimp only at h
    · unfold State.routeProducerWrite at h
      dsimp only at h
      split at h
      · cases h
      · rename_i hfull
        cases h
        exact Bool.eq_false_iff.2 hfull
    · unfold State.routeConsumerWrite at h
      split at h <;> cases h
      cases hroute
  unfold State.routing at h
  split at h
  · unfold State.routeHome at h
    split at h
    · cases h; cases hroute
    · exact htwo h
    · exact htwo h
    · rw [if_pos hwrite] at h; cases h
    · cases h; cases hroute
    · rw [if_pos hwrite] at h; cases h
  · cases h; cases hroute
  · cases h; cases hroute

/-! ## The locks of a kept request (R119 to R121) -/

theorem State.takeLock_eq_withLocks (s : State) (r : Request) : s.takeLock r = s.withLocks (s.takeLock r).locks := by
  unfold State.takeLock
  repeat' split
  all_goals rfl

theorem State.takeLock_of_ne {r : Request} (h : r.kind ≠ .lockedRead) (s : State) : s.takeLock r = s := by
  unfold State.takeLock
  rw [if_neg]
  simp [h]

/-- R119: what a lock is taken from is the lock table and the lock limit. -/
theorem State.takeLock_locks_congr {s t : State} (hlocks : t.locks = s.locks) (hlink : t.link = s.link) (r : Request) :
    (t.takeLock r).locks = (s.takeLock r).locks := by
  have hon : t.lockOn r.address = s.lockOn r.address := by simp only [State.lockOn, hlocks]
  have hfree : t.freeLock = s.freeLock := by simp only [State.freeLock, hlocks]
  simp only [State.takeLock, hon, hfree]
  split
  · split
    · exact hlocks
    · simp only [State.setLock_locks, hlocks, hlink]
  · exact hlocks

/-- R119, R121: the lock table of a kept request: as the request's lock is taken, or claimed. -/
def State.locksKept (s : State) (r : Request) : Vector (Option Lock) 4 :=
  match s.lockTest r with
  | .claims j l => s.locks.set j (some { l with claim := some r.tag })
  | .retry | .orphan | .routed => (s.takeLock r).locks

theorem State.locksKept_of_routed {s : State} {r : Request} (h : s.lockTest r = .routed) :
    s.locksKept r = (s.takeLock r).locks := by
  simp only [State.locksKept, h]

theorem State.locksKept_of_claims {s : State} {r : Request} {j : Fin 4} {l : Lock} (h : s.lockTest r = .claims j l) :
    s.locksKept r = s.locks.set j (some { l with claim := some r.tag }) := by
  simp only [State.locksKept, h]

/-- R97, R98, R103: the state in which a kept transfer's waits are tested. -/
def State.entered (s : State) (i : Fin 8) (r : Request) (u : Transfer) : State :=
  ((s.accepted.setSlot i (some u)).countRead u).withLocks (s.locksKept r)

theorem State.countRead_withLocks (s : State) (x : Vector (Option Lock) 4) (u : Transfer) :
    (s.withLocks x).countRead u = (s.countRead u).withLocks x := by
  unfold State.countRead
  split <;> rfl

/-- R98, R103: a request that routing keeps is in the table, tested. -/
theorem exec_requestAcceptance_of_keep {s : State} {i : Fin 8} {r : Request} {u : Transfer} (htakes : s.takes i)
    (hport : s.passesPortChecks r) (htwin : s.passesTwinTest r)
    (hlock : s.lockTest r = .routed ∨ ∃ j l, s.lockTest r = .claims j l)
    (hroute : s.routing r s.port.nextAcceptance = .keep u) :
    exec (.requestAcceptance r) s = .next (s.entered i r u).retest := by
  rw [exec_requestAcceptance_of_passes htakes hport htwin, State.entered]
  obtain hrouted | ⟨j, l, hclaims⟩ := hlock
  · simp only [State.interlockAndRoute, State.accepted_lockTest, hrouted, State.accepted_routing, hroute, State.finishRouting]
    rw [State.takeLock_eq_withLocks, State.locksKept_of_routed hrouted,
      State.takeLock_locks_congr (s := s) (by simp [State.accepted]) (by simp [State.accepted])]
  · obtain ⟨-, -, -, hkind, -⟩ := State.lockTest_claims hclaims
    simp only [State.interlockAndRoute, State.accepted_lockTest, hclaims, State.accepted_routing, hroute, State.finishRouting]
    rw [State.takeLock_of_ne (by simp [hkind]), State.locksKept_of_claims hclaims]
    exact congrArg (fun x : State => (.next x.retest : Host.Outcome State Fault Refusal))
      (State.countRead_withLocks (s.accepted.setSlot i (some u)) _ u)

/-- What a transfer that enters leaves of each block. -/
theorem State.entered_frame (s : State) (i : Fin 8) (r : Request) (u : Transfer) :
    (s.entered i r u).carry = s.carry ∧ (s.entered i r u).groups = s.groups ∧ (s.entered i r u).timing = s.timing ∧
    (s.entered i r u).mem = s.quiet.mem ∧ (s.entered i r u).events = s.events ∧ (s.entered i r u).link = s.link ∧
    (s.entered i r u).startUp = s.startUp ∧ (s.entered i r u).pins = s.pins ∧
    (s.entered i r u).locks = s.locksKept r ∧ (s.entered i r u).port.slots = s.port.slots.set i (some u) ∧
    (s.entered i r u).port.nextAcceptance = s.port.nextAcceptance + 1 ∧
    (s.entered i r u).port.offered = s.port.offered ∧ (s.entered i r u).port.responses = [] := by
  simp [State.entered, State.accepted]

theorem State.countRead_windows_none {u : Transfer} (h : u.window = none ∨ u.countedBank = none) (s : State) :
    s.countRead u = s := by
  unfold State.countRead
  split
  · rename_i hw hb
    rcases h with h | h
    · rw [hw] at h; cases h
    · rw [hb] at h; cases h
  · rfl

theorem State.countRead_windows_some {u : Transfer} {w : WindowId} {b : Bank} (hw : u.window = some w)
    (hb : u.countedBank = some b) (s : State) :
    (s.countRead u).windows = s.windows.set w (s.windows[w].withLiveReads b (s.windows[w].liveReads b + 1)) := by
  unfold State.countRead
  rw [hw, hb]
  rfl

/-! ## The transfer after the test of its waits (R98, R107) -/

/-- R98, R107: a transfer tested for the first time is READY with no hold count, or WAITING with one at 0. -/
theorem State.testedTransfer_fresh (s : State) {u : Transfer} (hphase : u.phase = .ready) (hhold : u.hold = none) :
    (s.testedTransfer u).phase ≠ .issued ∧
    ((s.testedTransfer u).phase = .ready → (s.testedTransfer u).hold = none) ∧
    ((s.testedTransfer u).phase = .waiting →
      (s.testedTransfer u).hold = some { count := 0, limit := s.link.holdLimit.toNat }) := by
  refine ⟨s.testedTransfer_unissued u (by simp [hphase]), ?_, ?_⟩ <;> unfold State.testedTransfer Transfer.unissued <;>
    rw [if_pos (by simp [hphase])] <;> split
  · exact fun _ => hhold
  · exact fun h => TransferPhase.noConfusion h
  · exact fun h => TransferPhase.noConfusion h
  · intro _
    simp [hhold]

theorem State.testedTransfer_waiting {s : State} {u : Transfer} (hphase : u.phase = .ready) (hwaits : s.waits u ≠ []) :
    (s.testedTransfer u).phase = .waiting := by
  unfold State.testedTransfer Transfer.unissued
  rw [if_pos (by simp [hphase]), if_neg (by simpa using hwaits)]

/-! ## The demand entry of the only transfer in the table (R37) -/

theorem State.slotsByAge_of_single {s : State} {i : Fin 8} {u : Transfer} (hi : s.port.slots[i] = some u)
    (hother : ∀ j, j ≠ i → s.port.slots[j] = none) : s.slotsByAge = [i] := by
  have hplaces : placesWhere Option.isSome s.port.slots = [i] := by
    refine List.perm_singleton.1 ((List.perm_ext_iff_of_nodup ?_ (List.nodup_singleton i)).2 fun j => ?_)
    · exact ((places_sorted 8).imp ne_of_lt).filter _
    · rw [mem_placesWhere, List.mem_singleton]
      by_cases hj : j = i
      · subst hj; rw [hi]; simp
      · rw [hother j hj]; simp [hj]
  rw [State.slotsByAge, hplaces]
  rfl

theorem State.makeEntries_of_single {s : State} {i : Fin 8} {u : Transfer} (hi : s.port.slots[i] = some u)
    (hother : ∀ j, j ≠ i → s.port.slots[j] = none) (hunissued : u.unissued = true) : s.makeEntries = s.makeEntry u := by
  rw [State.makeEntries_eq, State.slotsByAge_of_single hi hother]
  simp only [List.foldl_cons, List.foldl_nil, State.makeEntryOf, hi, hunissued, if_true]

/-- R37: an entry that is needed, and for which the queue has room, is made at the tail or joined. -/
theorem State.makeEntry_demand {s : State} {u : Transfer} {w : WindowId} (hneed : s.needsEntry u w)
    (hfull : s.demandFull u = false) : (s.makeEntry u).carry.demand =
      if s.entryFor u w ∈ s.carry.demand then s.carry.demand else s.carry.demand ++ [s.entryFor u w] := by
  have hd := State.demandNeed_of_needsEntry hneed
  have hroom : s.entryFor u w ∈ s.carry.demand ∨ ¬ Config.demandCapacity ≤ s.carry.demand.length := by
    by_contra h
    rw [not_or, not_not] at h
    exact absurd ((State.demandFull_iff hneed.1).2 ⟨hneed, h.2, h.1⟩) (by simp [hfull])
  unfold State.makeEntry
  simp only [hd]
  by_cases hmem : s.entryFor u w ∈ s.carry.demand
  · rw [if_pos hmem, if_pos (by simp [hmem])]
  · have hlength := hroom.resolve_left hmem
    rw [if_neg hmem, if_neg (by simp [hmem, hlength])]
    rfl

/-- R37: what a wait for an entry reads is left by the making of entries. -/
theorem State.needsEntry_congr {s t : State} (hwindows : t.windows = s.windows) (hcopiers : t.carry.copiers = s.carry.copiers)
    (u : Transfer) (w : WindowId) : (t.needsEntry u w ↔ s.needsEntry u w) ∧ t.entryFor u w = s.entryFor u w := by
  have htargets : t.writeTargets u = s.writeTargets u := by simp only [State.writeTargets, hwindows]
  simp only [State.needsEntry, State.copyReaches, State.entryFor, hwindows, hcopiers, htargets, and_self]

/-- R37: the only transfer of the table, which needs an entry, waits behind it. -/
theorem State.entered_waits {s : State} {i : Fin 8} {r : Request} {u : Transfer} {w : WindowId}
    (hempty : ∀ j : Fin 8, s.port.slots[j] = none) (hroute : s.routing r s.port.nextAcceptance = .keep u)
    (hneed : s.needsEntry u w) :
    ((s.entered i r u).makeEntries.testedTransfer u).phase = .waiting ∧ (s.entered i r u).makeEntries.carry.demand =
      if s.entryFor u w ∈ s.carry.demand then s.carry.demand else s.carry.demand ++ [s.entryFor u w] := by
  obtain ⟨hrequest, -, hphase, -, -, -⟩ := State.routing_fresh hroute
  obtain ⟨-, hwrite, hshadow, -⟩ := id hneed
  have hbank : u.countedBank = none := State.routing_countedBank hroute (hrequest ▸ hwrite)
  have hfull : s.demandFull u = false := State.routing_demandFull hroute (hrequest ▸ hwrite) hshadow
  obtain ⟨hcarry, -, -, -, -, -, -, -, -, hslots, -, -, -⟩ := s.entered_frame i r u
  have hwindows : (s.entered i r u).windows = s.windows := by
    rw [State.entered, State.countRead_windows_none (.inr hbank)]
    rfl
  have hi : (s.entered i r u).port.slots[i] = some u := by rw [hslots, vector_set_apply, if_pos rfl]
  have hother (j : Fin 8) (hj : j ≠ i) : (s.entered i r u).port.slots[j] = none := by
    rw [hslots, vector_set_apply, if_neg fun h => hj h.symm, hempty]
  have hmake := State.makeEntries_of_single hi hother (by simp [Transfer.unissued, hphase])
  obtain ⟨hneed', hentry⟩ := State.needsEntry_congr hwindows (by rw [hcarry]) u w
  have hfull' : (s.entered i r u).demandFull u = false := by
    simp only [State.demandFull, State.demandNeed_congr hwindows (show _ = s.carry.copiers by rw [hcarry]), hcarry]
    exact hfull
  have hdemand := State.makeEntry_demand (hneed'.2 hneed) hfull'
  rw [hentry, hcarry] at hdemand
  rw [hmake]
  refine ⟨State.testedTransfer_waiting hphase fun hnone => ?_, hdemand⟩
  obtain ⟨hneed'', hentry'⟩ := State.needsEntry_congr (s := s.entered i r u) (t := (s.entered i r u).makeEntry u)
    (by simp) (by simp) u w
  have hline : .demandLine ∈ ((s.entered i r u).makeEntry u).waits u := by
    refine (State.demandLine_mem_waits _ _).2 ⟨w, hneed''.2 (hneed'.2 hneed), ?_⟩
    rw [hentry', hentry, hdemand]
    split
    · assumption
    · simp
  rw [hnone] at hline
  cases hline

/-- Settles O14: what the state of a kept request holds after the test of its waits. -/
theorem keptRequestEntersTable : Obligations.KeptRequestEntersTable := by
  intro s i r u htakes hport htwin hlock hroute
  obtain ⟨-, -, hphase, hhold, -, -⟩ := State.routing_fresh hroute
  have ⟨_, hnone, hfree, _⟩ := htakes
  obtain ⟨hcarry, hgroups, htiming, hmem, hevents, hlink, hstartUp, hpins, hlocks, hslots, hnext, hoffered, hresponses⟩ :=
    s.entered_frame i r u
  have hslot : (s.entered i r u).retest.port.slots[i] = some ((s.entered i r u).makeEntries.testedTransfer u) := by
    rw [State.retest_slots, hslots, vector_set_apply, if_pos rfl]
    rfl
  obtain ⟨hissued, hready, hwaiting⟩ := (s.entered i r u).makeEntries.testedTransfer_fresh hphase hhold
  have hretested := ((s.entered i r u).makeEntries.testedTransfer_retestedAs u).1
  have hprefix := (s.entered i r u).retest_prefix
  have hdemand : (s.entered i r u).retest.carry.demand = (s.entered i r u).makeEntries.carry.demand := rfl
  refine ⟨(s.entered i r u).retest, _, exec_requestAcceptance_of_keep htakes hport htwin hlock hroute, hslot, hretested,
    (s.entered i r u).retest_transfersTested i _ hslot (by simpa [Transfer.unissued] using hissued), hready, fun h => ?_,
    fun hb => ?_, fun w b hw hb => ?_, fun j hj => ?_, ?_, ?_, ?_, ?_, ?_, ?_, ?_, ?_, ?_, ?_,
    fun w hempty hneed => ?_, fun hrouted hkind => ?_, fun j l hclaims => ?_, ?_, ?_⟩
  · rw [hwaiting h]; simp [hlink]
  · simp only [State.retest_frame]
    rw [State.entered, State.countRead_windows_none (.inr hb)]
    rfl
  · simp only [State.retest_frame, State.entered, State.withLocks_windows, State.countRead_windows_some hw hb]
    rfl
  · have hkeep := (s.entered i r u).retest_keepsTransfers (· = i) j hj
    have hsame : (s.entered i r u).port.slots[j] = s.port.slots[j] := by
      rw [hslots, vector_set_apply, if_neg fun h => hj h.symm]
    rw [hsame] at hkeep
    exact hkeep
  · simp [hnext]
  · simp [hoffered, hnone]
  · simp [hresponses]
  · simp [hevents]
  · simp [hgroups]
  · simp [htiming]
  · simp only [State.retest_frame, hmem]
  · simp [hlink]
  · simp [hcarry]
  · rw [hcarry] at hprefix; exact hprefix
  · rw [hdemand]
    exact State.entered_waits hempty hroute hneed
  · simp only [State.retest_frame, hlocks, State.locksKept_of_routed hrouted, State.takeLock_of_ne hkind]
  · simp only [State.retest_frame, hlocks, State.locksKept_of_claims hclaims]
  · simp [hstartUp]
  · simp [hpins]

/-- Settles O17: the lock table of a kept LOCKED_READ, with its line free and with its line locked by its master, and of a
claiming UNLOCK_WRITE. -/
theorem lockedPairTakesAndClaimsEntry : Obligations.LockedPairTakesAndClaimsEntry := by
  intro s i r u htakes hport htwin hroute
  have hkept (hlock : s.lockTest r = .routed ∨ ∃ j l, s.lockTest r = .claims j l) :
      ∃ t, exec (.requestAcceptance r) s = .next t ∧ t.locks = s.locksKept r := by
    refine ⟨_, exec_requestAcceptance_of_keep htakes hport htwin hlock hroute, ?_⟩
    obtain ⟨-, -, -, -, -, -, -, -, hlocks, -, -, -, -⟩ := s.entered_frame i r u
    simp only [State.retest_frame, hlocks]
  refine ⟨fun j hkind hnone hfree hlower => ?_, fun j l hkind hdistinct hl hline hmaster => ?_, fun j l hclaims => ?_⟩
  · have hon : s.lockOn r.address = none := State.lockOn_none.2 hnone
    have hlock : s.freeLock = some j := State.freeLock_some.2 ⟨hfree, hlower⟩
    have hrouted : s.lockTest r = .routed := by
      rw [State.lockTest_of_none hon, hkind]
      simp [hlock]
    obtain ⟨t, hexec, hlocks⟩ := hkept (.inl hrouted)
    refine ⟨t, hexec, hlocks.trans ?_⟩
    rw [State.locksKept_of_routed hrouted, State.takeLock, if_pos (by simp [hkind, hon])]
    simp only [hlock]
    rfl
  · have hon : s.lockOn r.address = some j := State.lockOn_of_line hdistinct hl hline
    have hrouted : s.lockTest r = .routed := by
      rw [State.lockTest_of_entry hon hl, if_neg (not_not.2 hmaster), hkind]
    obtain ⟨t, hexec, hlocks⟩ := hkept (.inl hrouted)
    refine ⟨t, hexec, hlocks.trans ?_⟩
    rw [State.locksKept_of_routed hrouted, State.takeLock, if_neg (by simp [hon])]
  · obtain ⟨t, hexec, hlocks⟩ := hkept (.inr ⟨j, l, hclaims⟩)
    exact ⟨t, hexec, hlocks.trans (State.locksKept_of_claims hclaims)⟩

end Sys2Proof.Machine
end

section
/-! Proofs about answers: what an answer sets in motion (R95, R97, R34, R122, R60), the hold and lock limits (R108, R125), and the
end of a transfer in an event. -/

namespace Sys2Proof.Machine

open Sys2Proof

/-! ## One answer -/

theorem State.answer_eq {s : State} {i : Fin 8} {t : Transfer} (h : s.port.slots[i] = some t) (st : Status)
    (data : List Beat) : s.answer i st data =
      ((((s.setSlot i none).respond t.request st data).uncount t).settleLock t.request st).armByAnswer t st := by
  simp only [State.answer, h]

theorem responseData_eq (r : Request) (st : Status) (data : List Beat) : responseData r st data =
    if r.kind.isWrite then [] else if st = .okay then data else List.replicate r.beats 0 := by
  unfold responseData
  split
  · rfl
  · cases st <;> rfl

theorem State.answer_responses {s : State} {i : Fin 8} {t : Transfer} (h : s.port.slots[i] = some t) (st : Status)
    (data : List Beat) : (s.answer i st data).port.responses = s.port.responses ++ [
      { master := t.request.master
        tag := t.request.tag
        status := st
        data := if t.request.kind.isWrite then [] else if st = .okay then data
          else List.replicate t.request.beats 0 }] := by
  rw [State.answer_eq h, ← responseData_eq]
  simp only [State.armByAnswer_frame, State.settleLock_frame, State.uncount_frame, State.respond_responses]
  rfl

theorem State.uncount_windows_none {t : Transfer} (h : t.window = none ∨ t.countedBank = none) (s : State) :
    s.uncount t = s := by
  unfold State.uncount
  split
  · rename_i hw hb
    rcases h with h | h
    · rw [hw] at h; cases h
    · rw [hb] at h; cases h
  · rfl

theorem State.uncount_windows_some {t : Transfer} {w : WindowId} {b : Bank} (hw : t.window = some w)
    (hb : t.countedBank = some b) (s : State) :
    (s.uncount t).windows = s.windows.set w (s.windows[w].withLiveReads b (s.windows[w].liveReads b - 1)) := by
  unfold State.uncount
  rw [hw, hb]
  rfl

/-- R34: the windows after an answer, by the count the transfer was in. -/
theorem State.answer_windows {s : State} {i : Fin 8} {t : Transfer} (h : s.port.slots[i] = some t) (st : Status)
    (data : List Beat) :
    (t.window = none ∨ t.countedBank = none → (s.answer i st data).windows = s.windows) ∧
    ∀ w b, t.window = some w → t.countedBank = some b → (s.answer i st data).windows =
      s.windows.set w (s.windows[w].withLiveReads b (s.windows[w].liveReads b - 1)) := by
  rw [State.answer_eq h]
  simp only [State.armByAnswer_frame, State.settleLock_frame]
  refine ⟨fun hn => ?_, fun w b hw hb => ?_⟩
  · rw [State.uncount_windows_none hn]
    rfl
  · rw [State.uncount_windows_some hw hb]
    rfl

/-- Settles O18: each effect of an answer by the rule of the block it touches. -/
theorem answerSetsItsEffectsInMotion : Obligations.AnswerSetsItsEffectsInMotion := by
  intro s i t st data h
  obtain ⟨hnone, hsome⟩ := State.answer_windows h st data
  refine ⟨s.answer_slots i st data, State.answer_responses h st data, ?_, s.answer_settlesClaimOf i t st data h,
    s.answer_armsByAnswer i t st data h⟩
  cases hw : t.window with
  | none => exact hnone (.inl hw)
  | some w =>
    cases hb : t.countedBank with
    | none => exact hnone (.inr hb)
    | some b => exact hsome w b hw hb

/-! ## The end of a transfer in an event -/

/-- What the end of a transfer asks of the blocks of the state before its answer, which may hold its last result, and of the
memory port, which the event has changed. -/
theorem State.endsTransfer_of_answer {s a : State} {i : Fin 8} {t v : Transfer} {st : Status} {data : List Beat}
    (hslot : a.port.slots[i] = some v) (hother : ∀ j, j ≠ i → a.port.slots[j] = s.port.slots[j])
    (hv : v.request = t.request ∧ v.window = t.window ∧ v.countedBank = t.countedBank ∧ v.triggerMatch = t.triggerMatch)
    (hresponses : a.port.responses = []) (hoffered : a.port.offered = []) (hwindows : a.windows = s.windows)
    (hlocks : a.locks = s.locks) (hgroups : a.groups = s.groups) (hcarry : a.carry = s.carry) (htiming : a.timing = s.timing)
    (hlink : a.link = s.link) (hstartUp : a.startUp = s.startUp) (hpins : a.pins = s.pins) :
    s.endsTransfer (a.answer i st data).retest.acceptStanding i t st data a.events := by
  obtain ⟨hrequest, hwindow, hbank, htrigger⟩ := hv
  have hstanding : (a.answer i st data).retest.acceptStanding = (a.answer i st data).retest :=
    State.acceptStanding_of_none _ (by simp [hoffered])
  obtain ⟨hnone, hsome⟩ := State.answer_windows hslot st data
  have hprefix := (a.answer i st data).retest_prefix
  have harms := a.answer_armsByAnswer i v st data hslot
  rw [hstanding]
  refine ⟨?_, fun j hj => ?_, ?_, fun h => ?_, fun w b hw hb => ?_, fun j => ?_, ?_, ?_, ?_, ?_, ?_, ?_, ?_⟩
  · rw [State.retest_slots, State.answer_slot, if_pos rfl]
    rfl
  · have hkeep := (a.answer i st data).retest_keepsTransfers (· = i) j hj
    rw [State.answer_slot, if_neg fun h => hj h.symm, hother j hj] at hkeep
    exact hkeep
  · simp only [State.retest_frame, State.answer_responses hslot, hresponses, List.nil_append, hrequest]
  · rw [← hwindow, ← hbank] at h
    simp only [State.retest_frame, hnone h, hwindows]
  · simp only [State.retest_frame, hsome w b (hwindow.trans hw) (hbank.trans hb), hwindows]
  · have hsettled := a.answer_settlesClaimOf i v st data hslot j
    rw [hlocks, hrequest] at hsettled
    simp only [State.retest_frame]
    exact hsettled
  · unfold State.armsByAnswer at harms ⊢
    simp only [State.retest_frame, htrigger, hgroups, htiming, hrequest] at harms ⊢
    exact harms
  · simp [hcarry]
  · simp only [State.answer_frame, hcarry] at hprefix
    exact hprefix
  · simp [htiming]
  · simp [hlink]
  · simp [hstartUp]
  · simp [hpins]

/-! ## The limits (R108, R125) -/

theorem exec_holdLimitExpiry (i : Fin 8) (s : State) : exec (.holdLimitExpiry i) s = execHoldLimitExpiry i s := rfl
theorem exec_lockLimitExpiry (j : Fin 4) (s : State) : exec (.lockLimitExpiry j) s = execLockLimitExpiry j s := rfl

/-- Settles O19: a due hold count ends its transfer with RETRY, and a due age frees its entry. -/
theorem holdAndLockLimitsExpire : Obligations.HoldAndLockLimitsExpire := by
  refine ⟨fun s i t h hslot hphase hhold hlimit hoffered => ?_, fun s j l hl hlimit => ?_⟩
  · have hexpired : t.holdExpired = true := by simp [Transfer.holdExpired, hphase, hhold, hlimit]
    let a := s.quiet.record (.holdExpired t.request.master t.request.address t.window)
    refine ⟨(a.answer i .retry []).retest.acceptStanding, ?_, ?_, ?_⟩
    · have hq : s.quiet.port.slots[i] = some t := hslot
      simp only [exec_holdLimitExpiry, execHoldLimitExpiry, hq, hexpired, if_true, a]
    · exact State.endsTransfer_of_answer (a := a) hslot (fun _ _ => rfl) ⟨rfl, rfl, rfl, rfl⟩ rfl hoffered rfl rfl rfl rfl
        rfl rfl rfl rfl
    · simp [a]
  · have hq : s.quiet.locks[j] = some l := hl
    simp only [exec_lockLimitExpiry, execLockLimitExpiry, hq, if_pos hlimit]
    rfl

end Sys2Proof.Machine
end

section
/-! Proofs about the grant decision (R134, R135) and the choice within a class (R134, R131, R35). -/

namespace Sys2Proof.Machine

open Sys2Proof

/-! ## The choice among classes (R134, R135) -/

theorem State.freeMemSlot_some {s : State} {k : Fin 12} : s.freeMemSlot = some k ↔ s.firstFreeMemSlot k := by
  rw [State.freeMemSlot, placesWhere_head_some]
  simp [-Fin.getElem_fin, State.firstFreeMemSlot]

theorem State.freeMemSlot_none {s : State} : s.freeMemSlot = none ↔ ∀ k : Fin 12, s.mem.slots[k] ≠ .free := by
  rw [State.freeMemSlot, placesWhere_head_none]
  simp [-Fin.getElem_fin]

theorem exec_memGrant (s : State) : exec .memGrant s = execMemGrant s := rfl

/-- The order of age reads the table only. -/
theorem State.slotsByAge_congr {s t : State} (h : t.port.slots = s.port.slots) : t.slotsByAge = s.slotsByAge := by
  have hinsert : t.insertByAge = s.insertByAge := by
    funext i l
    induction l with
    | nil => rfl
    | cons j l ih => simp only [State.insertByAge, h, ih]
  simp only [State.slotsByAge, h, hinsert]

/-- The decision does not look at the outputs of the event before. -/
theorem State.quiet_chooseRequest (s : State) : s.quiet.chooseRequest = s.chooseRequest := by
  have hup : s.quiet.chooseUpstream = s.chooseUpstream := by
    have hage : s.quiet.slotsByAge = s.slotsByAge := State.slotsByAge_congr rfl
    simp only [State.chooseUpstream, hage]
    rfl
  simp only [State.chooseRequest, hup]
  rfl

theorem State.quiet_nextGrant (s : State) : s.quiet.nextGrant = s.nextGrant := by
  have hfree : s.quiet.freeMemSlot = s.freeMemSlot := rfl
  simp only [State.nextGrant, hfree, State.quiet_chooseRequest]

theorem exec_memGrant_of_none {s : State} (h : s.nextGrant = none) : exec .memGrant s = .next s.quiet := by
  have hq : s.quiet.nextGrant = none := s.quiet_nextGrant.trans h
  simp only [exec_memGrant, execMemGrant, hq]

theorem State.nextGrant_of_none {s : State} (h : s.freeMemSlot = none ∨ s.chooseRequest = none) : s.nextGrant = none := by
  unfold State.nextGrant
  rcases h with h | h
  · rw [h]
  · rw [h]
    cases s.freeMemSlot <;> rfl

/-- Settles O20: the choice class by class, the share counter by the class granted, and the class of a copy. -/
theorem grantDecisionFollowsClassesAndShare : Obligations.GrantDecisionFollowsClassesAndShare := by
  intro s
  refine ⟨fun h => ?_, fun o hboot => ?_, fun hboot => ⟨fun o hdemand => ?_, fun hdemand => ⟨fun o hurgent => ?_,
    fun hurgent => ⟨fun o hup hshare => ?_, fun o hordinary hshare => ?_, fun hup hordinary => ?_⟩⟩⟩, ?_, rfl, rfl, rfl, rfl,
    fun k hk => ?_, fun k hk => ?_⟩
  · exact exec_memGrant_of_none (State.nextGrant_of_none (h.imp_left State.freeMemSlot_none.2))
  · simp only [State.chooseRequest, hboot]
    split <;> rfl
  · simp only [State.chooseRequest, hboot, hdemand]
    split <;> rfl
  · simp only [State.chooseRequest, hboot, hdemand, hurgent]
    split <;> rfl
  · simp only [State.chooseRequest, hboot, hdemand, hurgent, hup]
    rcases hshare with hne | hordinary
    · rw [if_neg (show s.mem.share ≠ Config.shareLimit from hne)]; rfl
    · simp only [hordinary]
      split <;> rfl
  · simp only [State.chooseRequest, hboot, hdemand, hurgent, hordinary]
    rcases hshare with heq | hup
    · rw [if_pos (show s.mem.share = Config.shareLimit from heq)]; rfl
    · simp only [hup]
      split <;> rfl
  · simp only [State.chooseRequest, hboot, hdemand, hurgent, hup, hordinary]
    split <;> rfl
  · show (if (s.chooseCopy .ordinaryCopy).isSome then _ else _) = _
    cases s.chooseCopy .ordinaryCopy <;> rfl
  · simp only [State.copyClass, hk]
  · intro g
    have hclass : s.copyClass k = if s.urgent k.window then .urgentCopy else .ordinaryCopy := by
      simp only [State.copyClass, hk]
    refine ⟨fun h => ?_, fun h => ?_⟩
    · rw [hclass, if_pos ((s.urgent_iff k.window).2 h)]
    · rw [hclass, if_neg]
      intro hu
      obtain ⟨harmed, hclosed⟩ := (s.urgent_iff k.window).1 hu
      rcases h with h | h
      · exact absurd (harmed.symm.trans h) (by decide)
      · exact absurd (hclosed.symm.trans h) (by decide)

/-! ## The order of age (R97) -/

/-- R97: the age of an occupied slot. -/
def State.age (s : State) (i : Fin 8) : Nat :=
  match s.port.slots[i] with
  | none => 0
  | some t => t.acceptance

/-- A slot put among others by age keeps them in order of age. -/
theorem State.insertByAge_sorted {s : State} {i : Fin 8} (hi : s.port.slots[i].isSome = true) {l : List (Fin 8)}
    (hl : ∀ j ∈ l, s.port.slots[j].isSome = true) (h : l.Pairwise fun j k => s.age j ≤ s.age k) :
    (s.insertByAge i l).Pairwise fun j k => s.age j ≤ s.age k := by
  induction l with
  | nil => exact List.pairwise_singleton _ _
  | cons j l ih =>
    obtain ⟨hj, hrest⟩ := List.pairwise_cons.1 h
    obtain ⟨a, ha⟩ := Option.isSome_iff_exists.1 hi
    obtain ⟨b, hb⟩ := Option.isSome_iff_exists.1 (hl j List.mem_cons_self)
    have hai : s.age i = a.acceptance := by simp only [State.age, ha]
    have hbj : s.age j = b.acceptance := by simp only [State.age, hb]
    unfold State.insertByAge
    simp only [ha, hb]
    split
    · rename_i hlt
      refine List.pairwise_cons.2 ⟨fun k hk => ?_, h⟩
      rcases List.mem_cons.1 hk with rfl | hk
      · omega
      · exact (by omega : s.age i ≤ s.age j).trans (hj k hk)
    · rename_i hnlt
      refine List.pairwise_cons.2 ⟨fun k hk => ?_, ih (fun k hk => hl k (List.mem_cons_of_mem _ hk)) hrest⟩
      rcases (State.mem_insertByAge s i k l).1 hk with rfl | hk
      · omega
      · exact hj k hk

theorem State.slotsByAge_sorted (s : State) : s.slotsByAge.Pairwise fun j k => s.age j ≤ s.age k := by
  have walk (l : List (Fin 8)) (hl : ∀ j ∈ l, s.port.slots[j].isSome = true) :
      (l.foldr s.insertByAge []).Pairwise (fun j k => s.age j ≤ s.age k) ∧
        ∀ j ∈ l.foldr s.insertByAge [], s.port.slots[j].isSome = true := by
    induction l with
    | nil => exact ⟨.nil, fun _ h => nomatch h⟩
    | cons i l ih =>
      obtain ⟨hsorted, hoccupied⟩ := ih fun j hj => hl j (List.mem_cons_of_mem _ hj)
      have hi := hl i List.mem_cons_self
      refine ⟨State.insertByAge_sorted hi hoccupied hsorted, fun j hj => ?_⟩
      rcases (State.mem_insertByAge s i j _).1 hj with rfl | hj
      · exact hi
      · exact hoccupied j hj
  exact (walk _ fun j hj => (mem_placesWhere _ _ j).1 hj).1

/-! ## The choice within a class (R134) -/

theorem State.presentedCopy_some {s : State} {cls : RequestClass} {c : Fin 2} {k : CopyRecord} :
    s.presentedCopy cls c = some k ↔ s.carry.copiers[c] = .busy k ∧ k.granted = false ∧ s.copyClass k = cls := by
  unfold State.presentedCopy
  cases s.carry.copiers[c] with
  | idle => simp
  | busy j =>
    simp only [Copier.busy.injEq]
    constructor
    · intro h
      split at h
      · rename_i hc
        cases h
        simpa using hc
      · cases h
    · rintro ⟨rfl, hg, hc⟩
      rw [if_pos (by simp [hg, hc])]

/-- The request that a slot presents, by its owner. -/
def State.presentedBy (s : State) (i : Fin 8) : Option Owner :=
  match s.port.slots[i] with
  | none => none
  | some t => (s.presentedPart t).map fun part => .transfer i part

theorem State.chooseUpstream_eq (s : State) : s.chooseUpstream = s.slotsByAge.findSome? s.presentedBy := rfl

theorem State.presentedBy_some {s : State} {i j : Fin 8} {part : TransferPart} :
    s.presentedBy j = some (.transfer i part) ↔ j = i ∧ ∃ u, s.port.slots[j] = some u ∧ s.presentedPart u = some part := by
  unfold State.presentedBy
  cases s.port.slots[j] with
  | none => simp
  | some u => simp; tauto

theorem State.presentedBy_none {s : State} {j : Fin 8} :
    s.presentedBy j = none ↔ ∀ v ∈ s.port.slots[j], s.presentedPart v = none := by
  unfold State.presentedBy
  cases s.port.slots[j] with
  | none => simp
  | some u => simp

theorem State.chooseUpstream_some {s : State} {i : Fin 8} {part : TransferPart}
    (h : s.chooseUpstream = some (.transfer i part)) :
    ∃ u, s.port.slots[i] = some u ∧ s.presentedPart u = some part ∧
      ∀ j : Fin 8, ∀ v ∈ s.port.slots[j], s.presentedPart v ≠ none → u.acceptance ≤ v.acceptance := by
  obtain ⟨k, -, hk, hleast⟩ := findSome?_least s.slotsByAge_sorted h
  obtain ⟨rfl, u, hu, hpart⟩ := State.presentedBy_some.1 hk
  refine ⟨u, hu, hpart, fun j v hv hpresented => ?_⟩
  have hne : s.presentedBy j ≠ none := fun hn => hpresented (State.presentedBy_none.1 hn v hv)
  rw [Option.mem_def] at hv
  rcases hleast j ((s.mem_slotsByAge j).2 (by rw [hv]; rfl)) hne with rfl | hage
  · rw [hu] at hv
    cases hv
    exact le_rfl
  · simpa only [State.age, hu, hv] using hage

theorem State.chooseUpstream_none {s : State} :
    s.chooseUpstream = none ↔ ∀ j : Fin 8, ∀ v ∈ s.port.slots[j], s.presentedPart v = none := by
  rw [State.chooseUpstream_eq, List.findSome?_eq_none_iff]
  refine ⟨fun h j v hv => ?_, fun h j _ => State.presentedBy_none.2 (h j)⟩
  refine State.presentedBy_none.1 (h j ((s.mem_slotsByAge j).2 ?_)) v hv
  rw [Option.mem_def.1 hv]
  rfl

theorem State.chooseCopy_some {s : State} {cls : RequestClass} {c : Fin 2} (h : s.chooseCopy cls = some (.copier c)) :
    ∃ k, s.presentedCopy cls c = some k ∧ ∀ d j, s.presentedCopy cls d = some j → k.taken ≤ j.taken := by
  unfold State.chooseCopy at h
  split at h
  · rename_i a b ha hb
    split at h <;> rename_i hlt <;> cases h
    · refine ⟨b, hb, Fin.forall_fin_two.2 ⟨fun j hj => ?_, fun j hj => ?_⟩⟩
      · cases ha.symm.trans hj; exact hlt.le
      · cases hb.symm.trans hj; exact le_rfl
    · refine ⟨a, ha, Fin.forall_fin_two.2 ⟨fun j hj => ?_, fun j hj => ?_⟩⟩
      · cases ha.symm.trans hj; exact le_rfl
      · cases hb.symm.trans hj; exact not_lt.1 hlt
  · rename_i a ha hb
    cases h
    refine ⟨a, ha, Fin.forall_fin_two.2 ⟨fun j hj => ?_, fun j hj => ?_⟩⟩
    · cases ha.symm.trans hj; exact le_rfl
    · cases hb.symm.trans hj
  · rename_i b ha hb
    cases h
    refine ⟨b, hb, Fin.forall_fin_two.2 ⟨fun j hj => ?_, fun j hj => ?_⟩⟩
    · cases ha.symm.trans hj
    · cases hb.symm.trans hj; exact le_rfl
  · cases h

theorem State.chooseCopy_none {s : State} {cls : RequestClass} :
    s.chooseCopy cls = none ↔ ∀ c, s.presentedCopy cls c = none := by
  rw [Fin.forall_fin_two, State.chooseCopy]
  cases s.presentedCopy cls 0 <;> cases s.presentedCopy cls 1 <;> simp
  split <;> simp

/-- R131, R35: a presented shadow write is eligible unless the drain of its bank holds it. -/
theorem State.presentedPart_of_shadow {s : State} {t : Transfer} {w : WindowId} {b : Bank} {a : Address}
    (hphase : t.phase = .issued) (hwindow : t.window = some w) (hshadow : t.shadow = .presented b a) :
    s.presentedPart t =
      if s.windows[w].shadow = b ∧ s.windows[w].liveReads b ≠ 0 then none else some .shadow := by
  have hheld : s.shadowHeld t b = true ↔ s.windows[w].shadow = b ∧ s.windows[w].liveReads b ≠ 0 := by
    simp only [State.shadowHeld, hwindow, Bool.and_eq_true, decide_eq_true_eq, State.draining_eq_true]
    refine and_congr_right fun h => ?_
    rw [← h]
    rfl
  simp only [State.presentedPart, hphase, hshadow]
  by_cases h : s.shadowHeld t b = true
  · rw [if_pos h, if_pos (hheld.1 h)]
  · rw [if_neg h, if_neg (mt hheld.2 h)]

/-- Settles O21: what each owner presents, and which request of a class is chosen. -/
theorem arbiterTakesOldestOfClass : Obligations.ArbiterTakesOldestOfClass := by
  refine fun s => ⟨fun cls c k => State.presentedCopy_some, fun t => ⟨fun h => ?_, fun h => ?_, fun h hshadow => ?_⟩,
    fun i part h => State.chooseUpstream_some h, State.chooseUpstream_none, fun cls c h => State.chooseCopy_some h,
    fun cls => State.chooseCopy_none, fun t w b a hphase hwindow hshadow => ⟨fun hb hn => ?_, fun h => ?_⟩⟩
  · simp only [State.presentedPart, h]
  · simp only [State.presentedPart, h]
  · simp only [State.presentedPart, h]
    cases hs : t.shadow with
    | presented b a => exact absurd hs (hshadow b a)
    | absent => rfl
    | outstanding a => rfl
    | answered a ok => rfl
  · rw [State.presentedPart_of_shadow hphase hwindow hshadow, if_pos ⟨hb, hn⟩]
  · rw [State.presentedPart_of_shadow hphase hwindow hshadow, if_neg]
    rintro ⟨hb, hn⟩
    exact h.elim (absurd hb) hn

end Sys2Proof.Machine
end

section
/-! Proofs about grants (R133, R105, R13, R52, R43, R174): the issue of each owner's request, and what the issue of a producer
write does to its window. -/

namespace Sys2Proof.Machine

open Sys2Proof

/-! ## Demand entries after a test (R37) -/

/-- R37: a needed entry names a line of its window's carry set. -/
theorem State.line_mem_carry_of_demandNeed {s : State} {t : Transfer} {d : DemandEntry} (h : s.demandNeed t = some d) :
    d.line ∈ s.windows[d.window].carry := by
  obtain ⟨w, ⟨-, -, -, hmem, -⟩, rfl⟩ := State.demandNeed_some.1 h
  exact hmem

/-- R37: an entry that a test makes is needed by a write not yet issued. -/
theorem State.mem_retest_demand_need {s : State} {d : DemandEntry} (h : d ∈ s.retest.carry.demand) :
    d ∈ s.carry.demand ∨ ∃ i : Fin 8, ∃ t, s.port.slots[i] = some t ∧ t.unissued = true ∧ s.demandNeed t = some d := by
  have hmade : d ∈ s.makeEntries.carry.demand := h
  rw [State.makeEntries_eq] at hmade
  revert hmade
  refine (foldl_keeps (fun a : State => a.windows = s.windows ∧ a.carry.copiers = s.carry.copiers ∧ a.port = s.port ∧
    (d ∈ a.carry.demand → d ∈ s.carry.demand ∨ ∃ i : Fin 8, ∃ t, s.port.slots[i] = some t ∧ t.unissued = true ∧
      s.demandNeed t = some d)) _ (fun a i ⟨hwindows, hcopiers, hport, hmem⟩ => ?_) _ s ⟨rfl, rfl, rfl, .inl⟩).2.2.2
  obtain ⟨hw, hc, hp, -⟩ := a.makeEntryOf_frame i
  refine ⟨hw.trans hwindows, hc.trans hcopiers, hp.trans hport, fun hd => ?_⟩
  unfold State.makeEntryOf at hd
  split at hd
  · exact hmem hd
  · rename_i t ht
    split at hd
    · rename_i hunissued
      unfold State.makeEntry at hd
      split at hd
      · exact hmem hd
      · rename_i e he
        split at hd
        · exact hmem hd
        · rw [State.withDemand_demand, List.mem_append, List.mem_singleton] at hd
          rcases hd with hd | rfl
          · exact hmem hd
          · rw [State.demandNeed_congr hwindows hcopiers] at he
            rw [hport] at ht
            exact .inr ⟨i, t, ht, hunissued, he⟩
    · exact hmem hd

/-- R37: an entry that a test makes names a line of its window's carry set. -/
theorem State.mem_retest_demand {s : State} {d : DemandEntry} (h : d ∈ s.retest.carry.demand) :
    d ∈ s.carry.demand ∨ d.line ∈ s.windows[d.window].carry :=
  (State.mem_retest_demand_need h).imp_right fun ⟨_, _, _, _, hneed⟩ => State.line_mem_carry_of_demandNeed hneed

/-! ## A line that leaves the carry set (R25, R46, R52, R79) -/

theorem State.mem_dropEntry {s : State} {w : WindowId} {line : Nat} {d : DemandEntry} :
    d ∈ (s.dropEntry w line).carry.demand ↔ d ∈ s.carry.demand ∧ d ≠ { window := w, line := line } := by
  simp [State.dropEntry]

/-- R25: a carry set that is not empty, or is of a window that is neither SEEDING nor HOMING, ends nothing. -/
theorem State.endCarry_of_ne {s : State} {w : WindowId}
    (h : s.windows[w].carry ≠ [] ∨ s.windows[w].state ≠ .seeding ∧ s.windows[w].state ≠ .homing) : s.endCarry w = s := by
  unfold State.endCarry
  split
  · rename_i hempty
    rcases h with h | ⟨hs, hh⟩
    · exact absurd (List.isEmpty_iff.1 hempty) h
    · split
      · rename_i hstate; exact absurd hstate hs
      · rename_i hstate; exact absurd hstate hh
      all_goals rfl
  · rfl

theorem State.endCarry_of_seeding {s : State} {w : WindowId} (hcarry : s.windows[w].carry = [])
    (hstate : s.windows[w].state = .seeding) :
    s.endCarry w = (s.setWindow w { s.windows[w] with state := .active }).record (.seedDone w) := by
  unfold State.endCarry
  rw [if_pos (by rw [hcarry]; rfl)]
  simp only [hstate]

theorem State.endCarry_of_homing {s : State} {w : WindowId} (hcarry : s.windows[w].carry = [])
    (hstate : s.windows[w].state = .homing) :
    s.endCarry w = (s.setWindow w { s.windows[w] with state := .disabled, live := .bank0 }).record (.homeDone w) := by
  unfold State.endCarry
  rw [if_pos (by rw [hcarry]; rfl)]
  simp only [hstate]

/-- R46, R52: a window takes a new record, a line's entry leaves the queue, and what an empty carry set ends follows. -/
def State.lineLeaves (s : State) (w : WindowId) (y : Window) (line : Nat) : State :=
  (((s.setWindow w y).dropEntry w line).endCarry w).testRollbacks

theorem vector_set_self {α : Type} {n : Nat} (v : Vector α n) (i : Fin n) (x : α) : (v.set i x)[i] = x := by
  rw [vector_set_apply, if_pos rfl]

/-- R25, R79: the windows, the groups and the records after a line leaves. -/
theorem State.lineLeaves_windows (s : State) (w : WindowId) (y : Window) (line : Nat) :
    (y.carry ≠ [] ∨ y.state ≠ .seeding ∧ y.state ≠ .homing →
      (s.lineLeaves w y line).windows = s.windows.set w y ∧ (s.lineLeaves w y line).rollbacksEnd s.groups s.events) ∧
    (y.carry = [] → y.state = .seeding →
      (s.lineLeaves w y line).windows = s.windows.set w { y with state := .active } ∧
      (s.lineLeaves w y line).rollbacksEnd s.groups (s.events.append (.seedDone w))) ∧
    (y.carry = [] → y.state = .homing →
      (s.lineLeaves w y line).windows = s.windows.set w { y with state := .disabled, live := .bank0 } ∧
      (s.lineLeaves w y line).rollbacksEnd s.groups (s.events.append (.homeDone w))) := by
  let a := (s.setWindow w y).dropEntry w line
  have hwindows : a.windows = s.windows.set w y := by simp [a]
  have hw : a.windows[w] = y := by rw [hwindows, vector_set_self]
  have hgroups : a.groups = s.groups := by simp [a]
  have hevents : a.events = s.events := by simp [a]
  refine ⟨fun h => ?_, fun hcarry hstate => ?_, fun hcarry hstate => ?_⟩
  · have hend : a.endCarry w = a := State.endCarry_of_ne (by rw [hw]; exact h)
    have hrollbacks := a.testRollbacks_rollbacksEnd
    rw [hgroups, hevents] at hrollbacks
    have hleaves : s.lineLeaves w y line = a.testRollbacks := by rw [State.lineLeaves, hend]
    rw [hleaves]
    exact ⟨by simp only [State.testRollbacks_frame, hwindows], hrollbacks⟩
  · have hend := State.endCarry_of_seeding (s := a) (w := w) (by rw [hw]; exact hcarry) (by rw [hw]; exact hstate)
    rw [hw] at hend
    have hrollbacks := (a.endCarry w).testRollbacks_rollbacksEnd
    rw [hend, State.record_groups, State.record_events] at hrollbacks
    have hleaves : s.lineLeaves w y line = (a.endCarry w).testRollbacks := rfl
    rw [hleaves, hend]
    refine ⟨?_, ?_⟩
    · simp only [State.testRollbacks_frame, State.record_frame, State.setWindow_windows, hwindows]
      exact Vector.set_set ..
    · simp only [State.setWindow_groups, State.setWindow_events, hgroups, hevents] at hrollbacks
      exact hrollbacks
  · have hend := State.endCarry_of_homing (s := a) (w := w) (by rw [hw]; exact hcarry) (by rw [hw]; exact hstate)
    rw [hw] at hend
    have hrollbacks := (a.endCarry w).testRollbacks_rollbacksEnd
    rw [hend, State.record_groups, State.record_events] at hrollbacks
    have hleaves : s.lineLeaves w y line = (a.endCarry w).testRollbacks := rfl
    rw [hleaves, hend]
    refine ⟨?_, ?_⟩
    · simp only [State.testRollbacks_frame, State.record_frame, State.setWindow_windows, hwindows]
      exact Vector.set_set ..
    · simp only [State.setWindow_groups, State.setWindow_events, hgroups, hevents] at hrollbacks
      exact hrollbacks

/-- What a line that leaves keeps of the other blocks. -/
theorem State.lineLeaves_frame (s : State) (w : WindowId) (y : Window) (line : Nat) :
    (s.lineLeaves w y line).timing = s.timing ∧ (s.lineLeaves w y line).port = s.port ∧
    (s.lineLeaves w y line).locks = s.locks ∧ (s.lineLeaves w y line).mem = s.mem ∧ (s.lineLeaves w y line).link = s.link ∧
    (s.lineLeaves w y line).startUp = s.startUp ∧ (s.lineLeaves w y line).pins = s.pins ∧
    (s.lineLeaves w y line).freeUses = s.freeUses ∧ (s.lineLeaves w y line).pending = s.pending ∧
    (s.lineLeaves w y line).carry.copiers = s.carry.copiers ∧
    (s.lineLeaves w y line).carry.demand = ((s.setWindow w y).dropEntry w line).carry.demand := by
  simp [State.lineLeaves]

/-- R25: the carry set of a window from which a line leaves is the one its new record has. -/
theorem State.lineLeaves_carry (s : State) (w : WindowId) (y : Window) (line : Nat) :
    (s.lineLeaves w y line).windows[w].carry = y.carry := by
  obtain ⟨hne, hseeding, hhoming⟩ := s.lineLeaves_windows w y line
  by_cases h : y.carry ≠ [] ∨ y.state ≠ .seeding ∧ y.state ≠ .homing
  · rw [(hne h).1, vector_set_self]
  · rw [not_or, not_not, not_and_or, not_not, not_not] at h
    obtain ⟨hcarry, hstate | hstate⟩ := h
    · rw [(hseeding hcarry hstate).1, vector_set_self]
    · rw [(hhoming hcarry hstate).1, vector_set_self]

/-- R25: no other window changes when a line leaves. -/
theorem State.lineLeaves_other (s : State) (w : WindowId) (y : Window) (line : Nat) {v : WindowId} (hv : v ≠ w) :
    (s.lineLeaves w y line).windows[v] = s.windows[v] := by
  obtain ⟨hne, hseeding, hhoming⟩ := s.lineLeaves_windows w y line
  by_cases h : y.carry ≠ [] ∨ y.state ≠ .seeding ∧ y.state ≠ .homing
  · rw [(hne h).1, vector_set_apply, if_neg hv.symm]
  · rw [not_or, not_not, not_and_or, not_not, not_not] at h
    obtain ⟨hcarry, hstate | hstate⟩ := h
    · rw [(hseeding hcarry hstate).1, vector_set_apply, if_neg hv.symm]
    · rw [(hhoming hcarry hstate).1, vector_set_apply, if_neg hv.symm]

/-- R37, R39: the entry of a line that has left its carry set is not in the queue, nor made again by the test. -/
theorem State.lineLeaves_entry {s : State} {w : WindowId} {y : Window} {line : Nat} (hline : line ∉ y.carry) {t : State}
    (hwindows : t.windows = (s.lineLeaves w y line).windows) (hcarry : t.carry = (s.lineLeaves w y line).carry) :
    ({ window := w, line := line } : DemandEntry) ∉ t.retest.carry.demand := by
  intro hmem
  obtain ⟨-, -, -, -, -, -, -, -, -, -, hdemand⟩ := s.lineLeaves_frame w y line
  rcases State.mem_retest_demand hmem with h | h
  · rw [hcarry, hdemand, State.mem_dropEntry] at h
    exact h.2 rfl
  · rw [hwindows] at h
    rw [s.lineLeaves_carry w y line] at h
    exact hline h

/-! ## The issue of a transfer's request (R133 step 4) -/

/-- R52: whether the issue of a write of a window cancels its line. -/
theorem State.cancels_iff {s : State} {t : Transfer} {w : WindowId} (h : t.window = some w) : s.cancels t = true ↔
    s.windows[w].carry.contains (s.windows[w].lineIndex t.request.address) = true ∧ t.request.wholeLine = true := by
  rw [State.cancels, State.stale_of_window h, Bool.and_eq_true]

theorem State.stageLine_of_cancels {s : State} {t : Transfer} (w : WindowId) (h : s.cancels t = true) :
    s.stageLine t w = s.lineLeaves w
      { s.windows[w] with
        carry := LineSet.remove (s.windows[w].lineIndex t.request.address) s.windows[w].carry
        dirty := LineSet.insert (s.windows[w].lineIndex t.request.address) s.windows[w].dirty }
      (s.windows[w].lineIndex t.request.address) := by
  unfold State.stageLine
  dsimp only
  rw [if_pos h]
  rfl

theorem State.stageLine_of_not_cancels {s : State} {t : Transfer} (w : WindowId) (h : s.cancels t = false) :
    s.stageLine t w = s.setWindow w { s.windows[w] with
      dirty := LineSet.insert (s.windows[w].lineIndex t.request.address) s.windows[w].dirty } := by
  unfold State.stageLine
  dsimp only
  rw [if_neg (by simp [h])]

/-- R13: the issue of a write for the shadow bank stages its line. -/
theorem State.issueSteps_of_producerWrite {t : Transfer} {w : WindowId} (hroute : t.route = .shadowBank)
    (hwindow : t.window = some w) (hwrite : t.request.kind.isWrite = true) (s : State) :
    s.issueSteps t = s.stageLine t w := by
  simp only [State.issueSteps, hroute, hwindow, hwrite, if_true]

/-- R13: no other transfer touches a set. -/
theorem State.issueSteps_of_ne {t : Transfer} (h : t.route ≠ .shadowBank ∨ t.request.kind.isWrite = false) (s : State) :
    s.issueSteps t = s := by
  unfold State.issueSteps
  split
  · rename_i hroute _
    rw [if_neg]
    rcases h with h | h
    · exact absurd hroute h
    · simp [h]
  · rfl

/-- What the window unit's issue step of a write leaves of the other blocks. -/
theorem State.issueSteps_frame (s : State) (t : Transfer) :
    (s.issueSteps t).timing = s.timing ∧ (s.issueSteps t).port = s.port ∧ (s.issueSteps t).locks = s.locks ∧
    (s.issueSteps t).mem = s.mem ∧ (s.issueSteps t).link = s.link ∧ (s.issueSteps t).startUp = s.startUp ∧
    (s.issueSteps t).pins = s.pins ∧ (s.issueSteps t).carry.copiers = s.carry.copiers := by
  unfold State.issueSteps State.stageLine
  split
  · split
    · dsimp only
      split <;> simp
    · simp
  · simp

/-- R133: the grant of the request that is chosen. -/
theorem exec_memGrant_of_issue {s s1 : State} {k : Fin 12} {cls : RequestClass} {o : Owner} {q : MemRequest}
    (hfree : s.firstFreeMemSlot k) (hchoose : s.chooseRequest = some (cls, o)) (hissue : s.quiet.issue o = some (q, s1)) :
    exec .memGrant s = .next (s1.enterSlot k q o (s.shareAfter cls)).retest := by
  have hgrant : s.quiet.nextGrant = some (k, cls, o) := by
    rw [State.quiet_nextGrant, State.nextGrant, State.freeMemSlot_some.2 hfree, hchoose]
  have hshare : s.quiet.shareAfter cls = s.shareAfter cls := rfl
  simp only [exec_memGrant, execMemGrant, hgrant, State.grant, hissue, hshare]

theorem State.enterSlot_frame (s : State) (k : Fin 12) (q : MemRequest) (o : Owner) (n : Nat) :
    (s.enterSlot k q o n).windows = s.windows ∧ (s.enterSlot k q o n).carry = s.carry ∧
    (s.enterSlot k q o n).groups = s.groups ∧ (s.enterSlot k q o n).timing = s.timing ∧
    (s.enterSlot k q o n).port = s.port ∧ (s.enterSlot k q o n).locks = s.locks ∧
    (s.enterSlot k q o n).events = s.events ∧ (s.enterSlot k q o n).link = s.link ∧
    (s.enterSlot k q o n).startUp = s.startUp ∧ (s.enterSlot k q o n).pins = s.pins ∧
    (s.enterSlot k q o n).mem.slots = s.mem.slots.set k (.pending q o 0 s.link.memoryLimit.toNat) ∧
    (s.enterSlot k q o n).mem.share = n ∧ (s.enterSlot k q o n).mem.presented = some (k, q) := by
  simp [State.enterSlot]

/-- R105, R13: the state after the issue steps of a transfer's first request. -/
def State.issued (s : State) (i : Fin 8) (u : Transfer) : State :=
  (s.quiet.setSlot i (some (s.issuedTransfer u))).issueSteps u

/-- What the issue of a transfer's first request leaves of each block. -/
theorem State.issued_frame (s : State) (i : Fin 8) (u : Transfer) :
    (s.issued i u).timing = s.timing ∧ (s.issued i u).locks = s.locks ∧ (s.issued i u).mem.slots = s.mem.slots ∧
    (s.issued i u).link = s.link ∧ (s.issued i u).startUp = s.startUp ∧ (s.issued i u).pins = s.pins ∧
    (s.issued i u).carry.copiers = s.carry.copiers ∧
    (s.issued i u).port.slots = s.port.slots.set i (some (s.issuedTransfer u)) ∧ (s.issued i u).port.responses = [] := by
  obtain ⟨htiming, hport, hlocks, hmem, hlink, hstartUp, hpins, hcopiers⟩ :=
    (s.quiet.setSlot i (some (s.issuedTransfer u))).issueSteps_frame u
  unfold State.issued
  rw [htiming, hport, hlocks, hmem, hlink, hstartUp, hpins, hcopiers]
  exact ⟨rfl, rfl, rfl, rfl, rfl, rfl, rfl, rfl, rfl⟩

theorem exec_memGrant_of_first {s : State} {k : Fin 12} {i : Fin 8} {cls : RequestClass} {u : Transfer}
    (hfree : s.firstFreeMemSlot k) (hchoose : s.chooseRequest = some (cls, .transfer i .first))
    (hslot : s.port.slots[i] = some u) : exec .memGrant s = .next ((s.issued i u).enterSlot k
      (transferRequest u (s.issueAddress u)) (.transfer i .first) (s.shareAfter cls)).retest := by
  refine exec_memGrant_of_issue hfree hchoose ?_
  have hq : s.quiet.port.slots[i] = some u := hslot
  simp only [State.issue, hq]
  rfl

/-- R105: the physical address of a transfer's first request, by what routing gave it. -/
theorem State.issueAddress_eq {s : State} {u : Transfer} {a : Address}
    (h : u.readAddress = some a ∨
      u.readAddress = none ∧ u.window = none ∧ a = u.request.address ∨
      ∃ w : WindowId, u.readAddress = none ∧ u.window = some w ∧ u.route ≠ .passThrough ∧
        a = s.windows[w].bankBase (if u.route = .shadowBank then s.windows[w].live.other else s.windows[w].live)
          + (u.request.address - s.windows[w].base)) : s.issueAddress u = a := by
  rcases h with h | ⟨h, hw, rfl⟩ | ⟨w, h, hw, hroute, rfl⟩
  · simp only [State.issueAddress, h]
  · simp only [State.issueAddress, h, hw]
  · simp only [State.issueAddress, h, hw]
    cases hr : u.route with
    | passThrough => exact absurd hr hroute
    | liveBank => rfl
    | shadowBank => rfl
    | bothBanks => rfl

theorem State.retest_slot_issued {s : State} {i : Fin 8} {t : Transfer} (h : s.port.slots[i] = some t)
    (hphase : t.phase = .issued) : s.retest.port.slots[i] = some t := by
  rw [State.retest_slots, h]
  exact congrArg some (s.makeEntries.testedTransfer_issued t hphase)

theorem State.keepsTransfersBut_retest {s t : State} {changed : Fin 8 → Prop}
    (h : ∀ j, ¬ changed j → t.port.slots[j] = s.port.slots[j]) : s.keepsTransfersBut t.retest changed := by
  intro j hj
  have hkeep := t.retest_keepsTransfers changed j hj
  rw [h j hj] at hkeep
  exact hkeep

/-- Settles O22: the issue of a transfer's first request. -/
theorem grantIssuesUpstreamRequest : Obligations.GrantIssuesUpstreamRequest := by
  intro s k i cls u a hfree hchoose hslot haddress
  have hexec := exec_memGrant_of_first hfree hchoose hslot
  have ha := State.issueAddress_eq haddress
  rw [ha] at hexec
  obtain ⟨htiming, hlocks, hmem, hlink, hstartUp, hpins, hcopiers, hslots, hresponses⟩ := s.issued_frame i u
  obtain ⟨hwindows', hcarry', hgroups', htiming', hport', hlocks', hevents', hlink', hstartUp', hpins', hmem', hshare',
    hpresented'⟩ := (s.issued i u).enterSlot_frame k (transferRequest u a) (.transfer i .first) (s.shareAfter cls)
  generalize (s.issued i u).enterSlot k (transferRequest u a) (.transfer i .first) (s.shareAfter cls) = b at *
  rw [← hport'] at hslots hresponses
  have hissued : b.port.slots[i] = some (s.issuedTransfer u) := by rw [hslots, vector_set_self]
  refine ⟨b.retest, s.shadowAtIssue u, hexec, ?_, ?_, ?_, ?_, fun h => ?_, fun w hroute hwindow => ?_, ?_, ?_,
    fun h => ?_, ?_, ?_, ?_, ?_, ?_, ?_⟩
  · rw [hmem, hlink] at hmem'
    simp only [State.retest_frame, hmem']
  · simp only [State.retest_frame, hpresented']
  · simp only [State.retest_frame, hshare']
  · rw [State.retest_slot_issued hissued rfl, ← ha]
    rfl
  · unfold State.shadowAtIssue
    split
    · rename_i hroute hwindow
      rcases h with h | h
      · exact absurd hroute h
      · rw [hwindow] at h; cases h
    · rfl
  · simp only [State.shadowAtIssue, hroute, hwindow, State.stale_of_window hwindow]
    rfl
  · refine State.keepsTransfersBut_retest fun j hj => ?_
    rw [hslots, vector_set_apply, if_neg fun h => hj h.symm]
  · simp only [State.retest_frame, hresponses]
  · have hsame : s.issued i u = s.quiet.setSlot i (some (s.issuedTransfer u)) := State.issueSteps_of_ne h _
    simp only [State.retest_frame, hwindows', hevents', hgroups', hsame]
    exact ⟨rfl, rfl, rfl⟩
  · simp only [State.retest_frame, hcarry', hcopiers]
  · simp only [State.retest_frame, htiming', htiming]
  · simp only [State.retest_frame, hlocks', hlocks]
  · simp only [State.retest_frame, hlink', hlink]
  · simp only [State.retest_frame, hstartUp', hstartUp]
  · simp only [State.retest_frame, hpins', hpins]

/-- Settles O23: the grant of a producer write stages its line, and a cancel lets the line leave the carry set. -/
theorem producerWriteStagesItsLineAtIssue : Obligations.ProducerWriteStagesItsLineAtIssue := by
  intro s k i cls u w hfree hchoose hslot hroute hwindow hwrite x line rest dirty
  let a := s.quiet.setSlot i (some (s.issuedTransfer u))
  let y : Window := { x with carry := rest, dirty := dirty }
  have hexec := exec_memGrant_of_first hfree hchoose hslot
  have hissued : s.issued i u = a.stageLine u w := State.issueSteps_of_producerWrite hroute hwindow hwrite a
  have hcancels : s.cancels u = true ↔ x.carry.contains line = true ∧ u.request.wholeLine = true :=
    State.cancels_iff hwindow
  obtain ⟨hwindows', hcarry', hgroups', -, -, -, hevents', -, -, -, -, -, -⟩ :=
    (s.issued i u).enterSlot_frame k (transferRequest u (s.issueAddress u)) (.transfer i .first) (s.shareAfter cls)
  generalize hgranted :
    (s.issued i u).enterSlot k (transferRequest u (s.issueAddress u)) (.transfer i .first) (s.shareAfter cls) = b at *
  have htw : b.retest.windows = (s.issued i u).windows := by simp only [State.retest_frame, hwindows']
  have htg : b.retest.groups = (s.issued i u).groups := by simp only [State.retest_frame, hgroups']
  have hte : b.retest.events = (s.issued i u).events := by simp only [State.retest_frame, hevents']
  refine ⟨b.retest, hexec, fun z => LineSet.mem_insert _ _ _, fun z => LineSet.mem_remove _ _ _, fun hc hl => ?_, fun h => ?_,
    fun v hv => ?_⟩
  · have hleaves : s.issued i u = a.lineLeaves w y line :=
      hissued.trans (State.stageLine_of_cancels w (hcancels.2 ⟨hc, hl⟩))
    obtain ⟨hne, hseeding, hhoming⟩ := a.lineLeaves_windows w y line
    have hrollbacks {before : Vector Group 4} {events : EventQueue}
        (h : (a.lineLeaves w y line).rollbacksEnd before events) : b.retest.rollbacksEnd before events :=
      State.rollbacksEnd_congr h (htw.trans (by rw [hleaves])) (htg.trans (by rw [hleaves])) (hte.trans (by rw [hleaves]))
    have hwin {z : Window} (h : (a.lineLeaves w y line).windows = a.windows.set w z) : b.retest.windows[w] = z := by
      rw [htw, hleaves, h, vector_set_self]
    refine ⟨?_, fun h => ?_, fun h hstate => ?_, fun h hstate => ?_⟩
    · exact State.lineLeaves_entry (s := a) (y := y) (fun h => ((LineSet.mem_remove _ _ _).1 h).2 rfl)
        (hwindows'.trans (by rw [hleaves])) (hcarry'.trans (by rw [hleaves]))
    · obtain ⟨hw, hr⟩ := hne h
      exact ⟨hwin hw, hrollbacks hr⟩
    · obtain ⟨hw, hr⟩ := hseeding h hstate
      exact ⟨(hwin hw).trans (by rw [show y.carry = [] from h]), hrollbacks hr⟩
    · obtain ⟨hw, hr⟩ := hhoming h hstate
      exact ⟨(hwin hw).trans (by rw [show y.carry = [] from h]), hrollbacks hr⟩
  · have hnot : s.cancels u = false := by
      rw [Bool.eq_false_iff]
      intro hc
      obtain ⟨h1, h2⟩ := hcancels.1 hc
      rcases h with h | h
      · exact absurd (h1.symm.trans h) (by decide)
      · exact absurd (h2.symm.trans h) (by decide)
    have hset := hissued.trans (State.stageLine_of_not_cancels (s := a) w hnot)
    refine ⟨?_, ?_, ?_⟩
    · rw [htw, hset, State.setWindow_windows, vector_set_self]
      rfl
    · rw [hte, hset]; rfl
    · rw [htg, hset]; rfl
  · rw [htw, hissued]
    by_cases hc : s.cancels u = true
    · rw [State.stageLine_of_cancels (s := a) w hc, State.lineLeaves_other _ _ _ _ hv]
      rfl
    · rw [State.stageLine_of_not_cancels (s := a) w (Bool.eq_false_iff.2 hc), State.setWindow_windows, vector_set_apply,
        if_neg hv.symm]
      rfl

/-- Settles O24: the grants of a copier's request, of a shadow write and of the start-up controller's read. -/
theorem grantIssuesCopyShadowAndBootRequests : Obligations.GrantIssuesCopyShadowAndBootRequests := by
  intro s k cls hfree
  refine ⟨fun c r hchoose hbusy => ?_, fun i u b a hchoose hslot hphase hshadow => ?_, fun r hchoose hread => ?_⟩
  · intro q
    have hq : s.quiet.carry.copiers[c] = .busy r := hbusy
    have hrequest : copyRequest r = q := by
      cases hphase : r.phase <;> simp only [copyRequest, q, hphase]
    have hissue : s.quiet.issue (.copier c) = some (q, s.quiet.setCopier c (.busy { r with granted := true })) := by
      simp only [State.issue, hq, hrequest]
    refine ⟨_, exec_memGrant_of_issue hfree hchoose hissue, ?_, ?_, ?_, ?_, ?_, ?_, ?_⟩
    · simp only [State.retest_frame]; rfl
    · simp only [State.retest_frame]; rfl
    · simp only [State.retest_frame]; rfl
    · simp only [State.retest_frame]; rfl
    · exact State.keepsTransfersBut_retest fun _ _ => rfl
    · simp only [State.retest_frame]; rfl
    · unfold State.keepsOtherBlocks
      simp only [State.retest_frame]
      exact ⟨rfl, rfl, rfl, rfl, rfl, rfl, rfl, rfl⟩
  · have hq : s.quiet.port.slots[i] = some u := hslot
    have hissue : s.quiet.issue (.transfer i .shadow) =
        some (transferRequest u a, s.quiet.setSlot i (some { u with shadow := .outstanding a })) := by
      simp only [State.issue, hq, hshadow]
    refine ⟨_, exec_memGrant_of_issue hfree hchoose hissue, ?_, ?_, ?_, ?_, ?_, ?_, ?_, ?_⟩
    · refine State.retest_slot_issued ?_ hphase
      exact vector_set_self _ _ _
    · simp only [State.retest_frame]; rfl
    · simp only [State.retest_frame]; rfl
    · simp only [State.retest_frame]; rfl
    · refine State.keepsTransfersBut_retest fun j hj => ?_
      show (s.port.slots.set i _)[j] = _
      rw [vector_set_apply, if_neg fun h => hj h.symm]
    · simp only [State.retest_frame]; rfl
    · simp only [State.retest_frame]; rfl
    · unfold State.keepsOtherBlocks
      simp only [State.retest_frame]
      exact ⟨rfl, rfl, rfl, rfl, rfl, rfl, rfl, rfl⟩
  · intro q
    have hq : s.quiet.startUp.read = some r := hread
    have hissue : s.quiet.issue .startUp =
        some (q, s.quiet.withStartUp { s.quiet.startUp with read := some { r with granted := true } }) := by
      simp only [State.issue, hq]
      rfl
    refine ⟨_, exec_memGrant_of_issue hfree hchoose hissue, ?_, ?_, ?_, ?_, ?_, ?_, ?_⟩ <;> simp only [State.retest_frame] <;>
      rfl

end Sys2Proof.Machine
end

section
/-! Proofs about results (R137 to R139): the end of a transfer by its last result (R110 to R112), and the end of a copy's read and
write (R45, R46, R48). -/

namespace Sys2Proof.Machine

open Sys2Proof

/-! ## The state in which a result is handed to its owner (R137, R139) -/

/-- What a response or a timeout has done when it hands the result to the owner: the slot of the memory port, the event queue,
and nothing else. -/
structure State.TakesResult (s b : State) (k : Fin 12) (slot : MemSlot) (e : EventQueue) : Prop where
  windows : b.windows = s.windows
  carry : b.carry = s.carry
  groups : b.groups = s.groups
  timing : b.timing = s.timing
  port : b.port = s.quiet.port
  locks : b.locks = s.locks
  mem : b.mem = { s.quiet.mem with slots := s.mem.slots.set k slot }
  events : b.events = e
  link : b.link = s.link
  startUp : b.startUp = s.startUp
  pins : b.pins = s.pins

/-- R137: a response frees its slot and hands its result to the owner. -/
theorem exec_memResponse_of_pending {s : State} {k : Fin 12} {q : MemRequest} {o : Owner} {n l : Nat}
    (hslot : s.mem.slots[k] = .pending q o n l) (st : MemStatus) (data : List Beat) :
    ∃ b d, s.TakesResult b k .free s.events ∧ (st = .okay → d = responseBeats s.freeUses q data) ∧
      exec (.memResponse k st data) s =
        .next (b.handResult o (decide (st = .okay)) d).retest.acceptStanding := by
  have hq : s.quiet.mem.slots[k] = .pending q o n l := hslot
  have hexec : exec (.memResponse k st data) s = .next (s.quiet.respondPending k q o st data) := by
    simp only [exec_memResponse, execMemResponse, hq]
  cases st with
  | okay =>
    refine ⟨(s.quiet.setMemSlot k .free).countFree (beatsOpen q data), responseBeats s.freeUses q data, ?_, fun _ => rfl,
      hexec⟩
    cases beatsOpen q data <;> exact ⟨rfl, rfl, rfl, rfl, rfl, rfl, rfl, rfl, rfl, rfl, rfl⟩
  | error =>
    exact ⟨s.quiet.setMemSlot k .free, [], ⟨rfl, rfl, rfl, rfl, rfl, rfl, rfl, rfl, rfl, rfl, rfl⟩,
      fun h => MemStatus.noConfusion h, hexec⟩

/-- R139: a timeout records itself, fences its slot and hands ERROR to the owner. -/
theorem exec_memTimeout_of_pending {s : State} {k : Fin 12} {q : MemRequest} {o : Owner} {n l : Nat}
    (hslot : s.mem.slots[k] = .pending q o n l) (hlimit : l ≤ n) :
    ∃ b, s.TakesResult b k (.fenced 0 s.link.memoryLimit.toNat) (s.events.append (.memTimeout q.address (s.timeoutWindow o))) ∧
      exec (.memTimeout k) s = .next (b.handResult o false []).retest.acceptStanding := by
  have hq : s.quiet.mem.slots[k] = .pending q o n l := hslot
  refine ⟨(s.quiet.record (.memTimeout q.address (s.quiet.timeoutWindow o))).setMemSlot k
    (.fenced 0 s.quiet.link.memoryLimit.toNat), ⟨rfl, rfl, rfl, rfl, rfl, rfl, rfl, rfl, rfl, rfl, rfl⟩, ?_⟩
  show execMemTimeout k s = _
  simp only [execMemTimeout, hq, if_pos hlimit]
  rfl

theorem State.TakesResult.offered {s b : State} {k : Fin 12} {slot : MemSlot} {e : EventQueue}
    (h : s.TakesResult b k slot e) : b.port.offered = s.port.offered := by rw [h.port]; rfl

theorem State.TakesResult.slots {s b : State} {k : Fin 12} {slot : MemSlot} {e : EventQueue}
    (h : s.TakesResult b k slot e) : b.port.slots = s.port.slots := by rw [h.port]; rfl

theorem State.TakesResult.responses {s b : State} {k : Fin 12} {slot : MemSlot} {e : EventQueue}
    (h : s.TakesResult b k slot e) : b.port.responses = [] := by rw [h.port]; rfl

/-! ## The last result of a transfer (R110 to R112) -/

theorem State.transferResult_of_slot {b : State} {i : Fin 8} {u : Transfer} (h : b.port.slots[i] = some u)
    (part : TransferPart) (ok : Bool) (data : List Beat) : b.transferResult i part ok data =
      if (u.withResult part ok).first.done && (u.withResult part ok).shadow.done then
        (b.setSlot i (some (u.withResult part ok))).answer i (u.withResult part ok).finalStatus data
      else b.setSlot i (some (u.withResult part ok)) := by
  simp only [State.transferResult, h]

/-- R110: a result changes nothing of a transfer but the record of its request. -/
theorem Transfer.withResult_frame (u : Transfer) (part : TransferPart) (ok : Bool) :
    (u.withResult part ok).request = u.request ∧ (u.withResult part ok).window = u.window ∧
    (u.withResult part ok).countedBank = u.countedBank ∧ (u.withResult part ok).triggerMatch = u.triggerMatch ∧
    (u.withResult part ok).phase = u.phase := by
  cases part <;> exact ⟨rfl, rfl, rfl, rfl, rfl⟩

/-- R95: of the data of a response only a read answered OKAY takes any. -/
theorem State.endsTransfer_congr_data {s t : State} {i : Fin 8} {u : Transfer} {st : Status} {d d' : List Beat}
    {e : EventQueue} (h : s.endsTransfer t i u st d e) (hd : u.request.kind.isWrite = false → st = .okay → d = d') :
    s.endsTransfer t i u st d' e := by
  obtain ⟨hslot, hkeep, hresponses, hrest⟩ := h
  refine ⟨hslot, hkeep, hresponses.trans ?_, hrest⟩
  by_cases hw : u.request.kind.isWrite = true
  · simp only [if_pos hw]
  · by_cases hst : st = .okay
    · rw [hd (Bool.eq_false_iff.2 hw) hst]
    · simp only [if_neg hst]

/-- R110: the last result ends the transfer. -/
theorem State.TakesResult.endsTransfer {s b : State} {k : Fin 12} {slot : MemSlot} {e : EventQueue}
    (h : s.TakesResult b k slot e) (hoffered : s.port.offered = []) {i : Fin 8} {u : Transfer}
    (hslot : s.port.slots[i] = some u) {part : TransferPart} {ok : Bool} (data : List Beat)
    (hfirst : (u.withResult part ok).first.done = true) (hshadow : (u.withResult part ok).shadow.done = true) :
    (b.transferResult i part ok data).retest.acceptStanding.mem = b.mem ∧
    s.endsTransfer (b.transferResult i part ok data).retest.acceptStanding i u (u.withResult part ok).finalStatus data e := by
  have hb : b.port.slots[i] = some u := by rw [h.slots]; exact hslot
  refine ⟨by simp only [State.acceptStanding_frame, State.retest_frame, State.transferResult_frame], ?_⟩
  obtain ⟨hrequest, hwindow, hbank, htrigger, -⟩ := u.withResult_frame part ok
  rw [State.transferResult_of_slot hb, if_pos (by rw [hfirst, hshadow]; rfl), ← h.events]
  refine State.endsTransfer_of_answer (a := b.setSlot i (some (u.withResult part ok))) (v := u.withResult part ok)
    (vector_set_self _ _ _) (fun j hj => ?_) ⟨hrequest, hwindow, hbank, htrigger⟩ h.responses
    (h.offered.trans hoffered) h.windows h.locks h.groups h.carry h.timing h.link h.startUp h.pins
  rw [State.setSlot_slots, vector_set_apply, if_neg fun he => hj he.symm, h.slots]

/-- R111: the beats that a read's response carries. -/
theorem responseBeats_read {q : MemRequest} (h : q.kind = .read) (uses : Nat) (data : List Beat) :
    responseBeats uses q data = (List.range q.beats).map fun j => data.getD j (Config.freeBeat uses j) := by
  simp only [responseBeats, h]

/-- Settles O26: the response to a transfer's only request ends it. -/
theorem memoryResponseEndsTransfer : Obligations.MemoryResponseEndsTransfer := by
  intro s k i n l u a st data hpending hslot hphase hfirst hshadow hoffered
  obtain ⟨b, d, htakes, hd, hexec⟩ := exec_memResponse_of_pending hpending st data
  have hdone : (u.withResult .first (decide (st = .okay))).first.done = true := by
    simp only [Transfer.withResult, hfirst]
    rfl
  have hdone' : (u.withResult .first (decide (st = .okay))).shadow.done = true := by
    show u.shadow.done = true
    rw [hshadow]
    rfl
  have hstatus : (u.withResult .first (decide (st = .okay))).finalStatus = if st = .okay then .okay else .error := by
    simp only [Transfer.finalStatus, Transfer.withResult, hfirst, hshadow, MemoryResult.settle, MemoryResult.okay,
      Bool.and_true, decide_eq_true_eq]
  obtain ⟨hmem, hends⟩ := htakes.endsTransfer hoffered hslot d hdone hdone'
  rw [hstatus] at hends
  refine ⟨_, hexec, ?_, ?_, State.endsTransfer_congr_data hends fun hread hokay => ?_⟩
  · exact (congrArg MemoryPort.slots hmem).trans (congrArg MemoryPort.slots htakes.mem)
  · exact (congrArg MemoryPort.presented hmem).trans (congrArg MemoryPort.presented htakes.mem)
  · have hst : st = .okay := by
      by_contra hne
      rw [if_neg hne] at hokay
      cases hokay
    rw [hd hst, responseBeats_read]
    · rfl
    · simp only [transferRequest, hread]
      rfl

/-- R16, R112: a response or a timeout of one of two writes. -/
theorem exec_result_of_pending {s : State} {k : Fin 12} {q : MemRequest} {i : Fin 8} {part : TransferPart} {n l : Nat}
    {u : Transfer} {c : Instr} {ok : Bool} {slot : MemSlot} {e : EventQueue} (hslot : s.port.slots[i] = some u)
    (hpending : s.mem.slots[k] = .pending q (.transfer i part) n l)
    (hc : (∃ st data, c = .memResponse k st data ∧ ok = decide (st = .okay) ∧ slot = .free ∧ e = s.events) ∨
      c = .memTimeout k ∧ l ≤ n ∧ ok = false ∧ slot = .fenced 0 s.link.memoryLimit.toNat ∧
        e = s.events.append (.memTimeout q.address u.window)) :
    ∃ b d, s.TakesResult b k slot e ∧ exec c s = .next (b.transferResult i part ok d).retest.acceptStanding := by
  rcases hc with ⟨st, data, rfl, rfl, rfl, rfl⟩ | ⟨rfl, hlimit, rfl, rfl, rfl⟩
  · obtain ⟨b, d, htakes, -, hexec⟩ := exec_memResponse_of_pending hpending st data
    exact ⟨b, d, htakes, hexec⟩
  · obtain ⟨b, htakes, hexec⟩ := exec_memTimeout_of_pending hpending hlimit
    have hwindow : s.timeoutWindow (.transfer i part) = u.window := by simp only [State.timeoutWindow, hslot]
    rw [hwindow] at htakes
    exact ⟨b, [], htakes, hexec⟩

/-- R110: while another request is waited for, a result is only recorded. -/
theorem State.TakesResult.keepsWaiting {s b : State} {k : Fin 12} {slot : MemSlot} {e : EventQueue}
    (h : s.TakesResult b k slot e) (hoffered : s.port.offered = []) {i : Fin 8} {v : Transfer} (hphase : v.phase = .issued) :
    let t := (b.setSlot i (some v)).retest.acceptStanding
    t.mem.slots = s.mem.slots.set k slot ∧ t.port.slots[i] = some v ∧ s.keepsTransfersBut t (· = i) ∧
      t.port.responses = [] ∧ t.windows = s.windows ∧ t.events = e ∧ t.groups = s.groups ∧ t.locks = s.locks ∧
      t.carry.copiers = s.carry.copiers ∧ s.carry.demand <+: t.carry.demand ∧ t.timing = s.timing ∧ t.link = s.link ∧
      t.startUp = s.startUp ∧ t.pins = s.pins := by
  have hstanding : (b.setSlot i (some v)).retest.acceptStanding = (b.setSlot i (some v)).retest :=
    State.acceptStanding_of_none _ (by simp [h.offered, hoffered])
  have hprefix := (b.setSlot i (some v)).retest_prefix
  rw [State.setSlot_carry, h.carry] at hprefix
  dsimp only
  rw [hstanding]
  refine ⟨?_, State.retest_slot_issued (vector_set_self _ _ _) hphase, State.keepsTransfersBut_retest fun j hj => ?_, ?_, ?_, ?_,
    ?_, ?_, ?_, hprefix, ?_, ?_, ?_, ?_⟩
  · simp only [State.retest_frame, State.setSlot_mem, h.mem]
  · rw [State.setSlot_slots, vector_set_apply, if_neg fun he => hj he.symm, h.slots]
  · simp only [State.retest_frame, State.setSlot_responses, h.responses]
  · simp only [State.retest_frame, State.setSlot_windows, h.windows]
  · simp only [State.retest_frame, State.setSlot_events, h.events]
  · simp only [State.retest_frame, State.setSlot_groups, h.groups]
  · simp only [State.retest_frame, State.setSlot_locks, h.locks]
  · simp only [State.retest_frame, State.setSlot_carry, h.carry]
  · simp only [State.retest_frame, State.setSlot_timing, h.timing]
  · simp only [State.retest_frame, State.setSlot_link, h.link]
  · simp only [State.retest_frame, State.setSlot_startUp, h.startUp]
  · simp only [State.retest_frame, State.setSlot_pins, h.pins]

/-- Settles O27: the first of two results is recorded, the last one ends the transfer. -/
theorem bothTransferWaitsForBothResults : Obligations.BothTransferWaitsForBothResults := by
  intro s k i n l u q a part c ok slot e hslot hphase hwrite hkind hpending hoffered hc mine other hmine
  obtain ⟨b, d, htakes, hexec⟩ := exec_result_of_pending hslot hpending hc
  have hb : b.port.slots[i] = some u := by rw [htakes.slots]; exact hslot
  refine ⟨fun hother => ?_, fun x ok' hother => ?_⟩
  · have hnot : ((u.withResult part ok).first.done && (u.withResult part ok).shadow.done) = false := by
      cases part
      · exact Bool.and_eq_false_iff.2 (.inr hother)
      · exact Bool.and_eq_false_iff.2 (.inl hother)
    rw [State.transferResult_of_slot hb, if_neg (by simp [hnot])] at hexec
    obtain ⟨-, -, -, -, hsame⟩ := u.withResult_frame part ok
    have hkept := htakes.keepsWaiting (i := i) hoffered (hsame.trans hphase)
    obtain ⟨hmem, hin, hrest⟩ := hkept
    refine ⟨_, hexec, hmem, hin.trans ?_, hrest⟩
    cases part
    · simp only [Transfer.withResult, show u.first = .outstanding a from hmine, MemoryResult.settle]
    · simp only [Transfer.withResult, show u.shadow = .outstanding a from hmine, MemoryResult.settle]
  · have hfirst : (u.withResult part ok).first.done = true := by
      cases part
      · simp only [Transfer.withResult, show u.first = .outstanding a from hmine]; rfl
      · show u.first.done = true
        rw [show u.first = _ from hother]; rfl
    have hshadow : (u.withResult part ok).shadow.done = true := by
      cases part
      · show u.shadow.done = true
        rw [show u.shadow = _ from hother]; rfl
      · simp only [Transfer.withResult, show u.shadow = .outstanding a from hmine]; rfl
    have hstatus : (u.withResult part ok).finalStatus = if ok = true ∧ ok' = true then .okay else .error := by
      cases part
      · simp only [Transfer.finalStatus, Transfer.withResult, show u.first = .outstanding a from hmine,
          show u.shadow = _ from hother, MemoryResult.settle, MemoryResult.okay, Bool.and_eq_true]
      · simp only [Transfer.finalStatus, Transfer.withResult, show u.shadow = .outstanding a from hmine,
          show u.first = _ from hother, MemoryResult.settle, MemoryResult.okay, Bool.and_eq_true, and_comm]
    obtain ⟨hmem, hends⟩ := htakes.endsTransfer hoffered hslot d hfirst hshadow
    rw [hstatus] at hends
    refine ⟨_, hexec, (congrArg MemoryPort.slots hmem).trans (congrArg MemoryPort.slots htakes.mem),
      State.endsTransfer_congr_data hends fun hread => ?_⟩
    exact absurd (hwrite.symm.trans hread) (by decide)

/-! ## The end of a copy's request (R45, R46, R48) -/

/-- R111: a read's response that carries as many beats as asked is taken as it is. -/
theorem responseBeats_exact {q : MemRequest} {data : List Beat} (h : q.kind = .read) (hlength : data.length = q.beats)
    (uses : Nat) : responseBeats uses q data = data := by
  rw [responseBeats_read h, ← hlength]
  refine List.ext_getElem (by simp) fun j h1 h2 => ?_
  simp [List.getD, h2]

/-- What a result that only moves a copier leaves. -/
theorem State.TakesResult.movesCopier {s b : State} {k : Fin 12} {slot : MemSlot} {e : EventQueue}
    (h : s.TakesResult b k slot e) (hoffered : s.port.offered = []) (c : Fin 2) (x : Copier) :
    let t := (b.setCopier c x).retest.acceptStanding
    t.mem.slots = s.mem.slots.set k slot ∧ t.carry.copiers = s.carry.copiers.set c x ∧
      s.carry.demand <+: t.carry.demand ∧ s.keepsTransfersBut t (fun _ => False) ∧ t.port.responses = [] ∧
      t.windows = s.windows ∧ t.groups = s.groups ∧ t.timing = s.timing ∧ t.locks = s.locks ∧ t.events = e ∧
      t.link = s.link ∧ t.startUp = s.startUp ∧ t.pins = s.pins := by
  have hstanding : (b.setCopier c x).retest.acceptStanding = (b.setCopier c x).retest :=
    State.acceptStanding_of_none _ (by simp [h.offered, hoffered])
  have hprefix := (b.setCopier c x).retest_prefix
  rw [State.setCopier_demand, h.carry] at hprefix
  dsimp only
  rw [hstanding]
  refine ⟨?_, ?_, hprefix, State.keepsTransfersBut_retest fun j _ => ?_, ?_, ?_, ?_, ?_, ?_, ?_, ?_, ?_, ?_⟩
  · simp only [State.retest_frame, State.setCopier_mem, h.mem]
  · simp only [State.retest_frame, State.setCopier_copiers, h.carry]
  · rw [State.setCopier_port, h.slots]
  · simp only [State.retest_frame, State.setCopier_port, h.responses]
  · simp only [State.retest_frame, State.setCopier_windows, h.windows]
  · simp only [State.retest_frame, State.setCopier_groups, h.groups]
  · simp only [State.retest_frame, State.setCopier_timing, h.timing]
  · simp only [State.retest_frame, State.setCopier_locks, h.locks]
  · simp only [State.retest_frame, State.setCopier_events, h.events]
  · simp only [State.retest_frame, State.setCopier_link, h.link]
  · simp only [State.retest_frame, State.setCopier_startUp, h.startUp]
  · simp only [State.retest_frame, State.setCopier_pins, h.pins]

theorem State.copyResult_of_disowned {b : State} {c : Fin 2} {r : CopyRecord} (h : b.carry.copiers[c] = .busy r)
    (howned : r.owned = false) (ok : Bool) (data : List Beat) : b.copyResult c ok data = b.setCopier c .idle := by
  simp only [State.copyResult, h, howned]
  rfl

theorem State.copyResult_of_okay {b : State} {c : Fin 2} {r : CopyRecord} (h : b.carry.copiers[c] = .busy r)
    (howned : r.owned = true) (data : List Beat) : b.copyResult c true data = b.copyOkay c r data := by
  simp only [State.copyResult, h, howned]
  rfl

theorem State.copyResult_of_error {b : State} {c : Fin 2} {r : CopyRecord} (h : b.carry.copiers[c] = .busy r)
    (howned : r.owned = true) (data : List Beat) :
    b.copyResult c false data = (b.freeCopier c).faultWindow r.window r.requestAddress := by
  simp only [State.copyResult, h, howned]
  rfl

/-- Settles O28: the read's response moves the copier on, and any response frees the copier of a disowned copy. -/
theorem copyReadFillsBufferUnlessDisowned : Obligations.CopyReadFillsBufferUnlessDisowned := by
  intro s k c q n l r data hpending hbusy hoffered
  refine ⟨fun howned hphase hkind hlength => ?_, fun howned st => ?_⟩
  · obtain ⟨b, d, htakes, hd, hexec⟩ := exec_memResponse_of_pending hpending .okay data
    have hb : b.carry.copiers[c] = .busy r := by rw [htakes.carry]; exact hbusy
    have hresult : b.handResult (.copier c) (decide (MemStatus.okay = .okay)) d =
        b.setCopier c (.busy { r with phase := .writing, buffer := data, granted := false }) := by
      refine (State.copyResult_of_okay hb howned d).trans ?_
      rw [hd rfl, responseBeats_exact hkind hlength]
      simp only [State.copyOkay, hphase]
    rw [hresult] at hexec
    obtain ⟨hmem, hcopiers, hdemand, hkeep, hresponses, hw, hg, ht, hlo, he, hli, hs, hp⟩ :=
      htakes.movesCopier hoffered c (.busy { r with phase := .writing, buffer := data, granted := false })
    exact ⟨_, hexec, hmem, hcopiers, hdemand, hkeep, hresponses, hw, hg, ht, hlo, he, hli, hs, hp⟩
  · obtain ⟨b, d, htakes, -, hexec⟩ := exec_memResponse_of_pending hpending st data
    have hb : b.carry.copiers[c] = .busy r := by rw [htakes.carry]; exact hbusy
    have hresult : b.handResult (.copier c) (decide (st = .okay)) d = b.setCopier c .idle :=
      State.copyResult_of_disowned hb howned _ d
    rw [hresult] at hexec
    obtain ⟨hmem, hcopiers, hdemand, hkeep, hresponses, hw, hg, ht, hlo, he, hli, hs, hp⟩ :=
      htakes.movesCopier hoffered c .idle
    exact ⟨_, hexec, hmem, hcopiers, hdemand, hkeep, hresponses, hw, hg, ht, hlo, he, hli, hs, hp⟩

/-- R46: the end of a copy's write is the end of its line. -/
theorem State.lineCopied_eq (s : State) (w : WindowId) (line : Nat) : s.lineCopied w line =
    s.lineLeaves w { s.windows[w] with carry := LineSet.remove line s.windows[w].carry } line := rfl

/-- Settles O29: the write's response lets the line leave the carry set. -/
theorem copyWriteRemovesLine : Obligations.CopyWriteRemovesLine := by
  intro s k c q n l r data hpending hbusy howned hphase hoffered x rest
  obtain ⟨b, d, htakes, -, hexec⟩ := exec_memResponse_of_pending hpending .okay data
  have hb : b.carry.copiers[c] = .busy r := by rw [htakes.carry]; exact hbusy
  let f := b.freeCopier c
  let y : Window := { x with carry := rest }
  have hbw : b.windows[r.window] = x := by rw [htakes.windows]
  have hresult : b.handResult (.copier c) (decide (MemStatus.okay = .okay)) d = f.lineLeaves r.window y r.line := by
    refine (State.copyResult_of_okay hb howned d).trans ?_
    simp only [State.copyOkay, hphase, State.lineCopied_eq]
    show (b.freeCopier c).lineLeaves r.window { b.windows[r.window] with
      carry := LineSet.remove r.line b.windows[r.window].carry } r.line = _
    rw [hbw]
  rw [hresult] at hexec
  obtain ⟨htiming, hport, hlocks, hmem, hlink, hstartUp, hpins, -, -, hcopiers, -⟩ := f.lineLeaves_frame r.window y r.line
  obtain ⟨hne, hseeding, hhoming⟩ := f.lineLeaves_windows r.window y r.line
  have hother (v : WindowId) (hv : v ≠ r.window) := f.lineLeaves_other r.window y r.line hv
  have hentry {t : State} := State.lineLeaves_entry (s := f) (w := r.window) (y := y) (line := r.line)
    (fun h => ((LineSet.mem_remove _ _ _).1 h).2 rfl) (t := t)
  generalize f.lineLeaves r.window y r.line = z at *
  have hzoffered : z.retest.port.offered = [] := by
    simp only [State.retest_frame, hport]
    exact htakes.offered.trans hoffered
  rw [State.acceptStanding_of_none _ hzoffered] at hexec
  have hzw : z.retest.windows = z.windows := by simp only [State.retest_frame]
  have hrollbacks {before : Vector Group 4} {events : EventQueue} (h : z.rollbacksEnd before events) :
      z.retest.rollbacksEnd before events :=
    State.rollbacksEnd_congr h hzw (by simp only [State.retest_frame])
      (by simp only [State.retest_frame])
  have hwin {v : Window} (h : z.windows = f.windows.set r.window v) : z.retest.windows[r.window] = v := by
    rw [hzw, h, vector_set_self]
  have hfg : f.groups = s.groups := htakes.groups
  have hfe : f.events = s.events := htakes.events
  rw [hfg, hfe] at hne hseeding hhoming
  refine ⟨z.retest, hexec, ?_, ?_, ?_, fun v hv => ?_, fun h => ?_, fun h hstate => ?_, fun h hstate => ?_, ?_, ?_, ?_, ?_,
    ?_, ?_, ?_⟩
  · simp only [State.retest_frame, hmem]
    exact congrArg MemoryPort.slots htakes.mem
  · simp only [State.retest_frame, hcopiers]
    show b.carry.copiers.set c .idle = _
    rw [htakes.carry]
  · exact hentry rfl rfl
  · rw [hzw, hother v hv]
    show b.windows[v] = _
    rw [htakes.windows]
  · obtain ⟨hw, hr⟩ := hne h
    exact ⟨hwin hw, hrollbacks hr⟩
  · obtain ⟨hw, hr⟩ := hseeding h hstate
    exact ⟨(hwin hw).trans (by rw [show y.carry = [] from h]), hrollbacks hr⟩
  · obtain ⟨hw, hr⟩ := hhoming h hstate
    exact ⟨(hwin hw).trans (by rw [show y.carry = [] from h]), hrollbacks hr⟩
  · refine State.keepsTransfersBut_retest fun j _ => ?_
    rw [hport]
    show b.port.slots[j] = _
    rw [htakes.slots]
  · simp only [State.retest_frame, hport]
    exact htakes.responses
  · simp only [State.retest_frame, htiming]
    exact htakes.timing
  · simp only [State.retest_frame, hlocks]
    exact htakes.locks
  · simp only [State.retest_frame, hlink]
    exact htakes.link
  · simp only [State.retest_frame, hstartUp]
    exact htakes.startUp
  · simp only [State.retest_frame, hpins]
    exact htakes.pins

end Sys2Proof.Machine
end

section
/-! Proofs about settling pending work (R22, R186) and about faults of windows (R28, R47, R75, R139). -/

namespace Sys2Proof.Machine

open Sys2Proof

/-! ## Settling pending writes (R22, R186) -/

theorem State.answer_groups_events {s : State} {i : Fin 8} {st : Status} (hst : st ≠ .okay) (data : List Beat) :
    (s.answer i st data).groups = s.groups ∧ (s.answer i st data).events = s.events := by
  cases ht : s.port.slots[i] with
  | none => simp only [State.answer, ht, and_self]
  | some t => exact (s.answer_armsByAnswer i t st data ht).1 (.inr hst)

/-- R62: an answer other than OKAY arms nothing. -/
theorem State.settleWrites_groups_events (s : State) (p : Address → Bool) {st : Status} (hst : st ≠ .okay) :
    (s.settleWrites p st).groups = s.groups ∧ (s.settleWrites p st).events = s.events := by
  refine foldl_keeps (fun a : State => a.groups = s.groups ∧ a.events = s.events) _ (fun a i ⟨hg, he⟩ => ?_) _ s ⟨rfl, rfl⟩
  obtain ⟨hg', he'⟩ := a.answer_groups_events (i := i) hst []
  unfold State.settleSlot
  split
  · exact ⟨hg, he⟩
  · split
    · exact ⟨hg'.trans hg, he'.trans he⟩
    · exact ⟨hg, he⟩

/-- The step of settling, by the slot. -/
theorem State.settleSlot_of_pending {s : State} {p : Address → Bool} {st : Status} {i : Fin 8} {t : Transfer}
    (ht : s.port.slots[i] = some t) (hp : t.isPendingWrite p) : State.settleSlot p st s i = s.answer i st [] := by
  simp only [State.settleSlot, ht, (t.pendingWriteIn_iff p).2 hp, if_true]

theorem State.settleSlot_of_not_pending {s : State} {p : Address → Bool} {i : Fin 8}
    (h : ∀ t, s.port.slots[i] = some t → ¬ t.isPendingWrite p) (st : Status) : State.settleSlot p st s i = s := by
  unfold State.settleSlot
  split
  · rfl
  · rename_i t ht
    rw [if_neg (mt (t.pendingWriteIn_iff p).1 (h t ht))]

/-- What settling leaves of a slot that it does not free. -/
theorem State.settleSlot_slot_some {s : State} {p : Address → Bool} {st : Status} {i j : Fin 8} {t : Transfer}
    (h : (State.settleSlot p st s i).port.slots[j] = some t) : s.port.slots[j] = some t := by
  rw [State.settleSlot_slots] at h
  split at h
  · cases h
  · exact h

/-- R34: settling writes that are in no count leaves the windows as they are. -/
theorem State.settleWrites_windows {s : State} {p : Address → Bool} (st : Status)
    (h : ∀ i : Fin 8, ∀ t, s.port.slots[i] = some t → t.isPendingWrite p → t.countedBank = none) :
    (s.settleWrites p st).windows = s.windows := by
  refine (foldl_keeps (fun a : State => a.windows = s.windows ∧ ∀ i : Fin 8, ∀ t, a.port.slots[i] = some t →
    s.port.slots[i] = some t) _ (fun a i ⟨hwindows, hslots⟩ => ⟨?_, fun j t hj => ?_⟩) _ s ⟨rfl, fun _ _ => id⟩).1
  · by_cases hp : ∃ t, a.port.slots[i] = some t ∧ t.isPendingWrite p
    · obtain ⟨t, ht, hp⟩ := hp
      rw [State.settleSlot_of_pending ht hp]
      exact ((State.answer_windows ht st []).1 (.inr (h i t (hslots i t ht) hp))).trans hwindows
    · rw [State.settleSlot_of_not_pending fun t ht hpending => hp ⟨t, ht, hpending⟩]
      exact hwindows
  · exact hslots j t (State.settleSlot_slot_some hj)

/-- A window with live-read counts of any value. -/
def Window.withCounts (x : Window) (m n : Nat) : Window := { x with liveReads0 := m, liveReads1 := n }

theorem Window.withLiveReads_eq_withCounts (x : Window) (b : Bank) (n : Nat) :
    ∃ m k, x.withLiveReads b n = x.withCounts m k := by
  cases b
  · exact ⟨n, x.liveReads1, rfl⟩
  · exact ⟨x.liveReads0, n, rfl⟩

/-- R34: an answer changes nothing of a window but its live-read counts. -/
theorem State.answer_window (s : State) (i : Fin 8) (st : Status) (data : List Beat) (w : WindowId) :
    ∃ m n, (s.answer i st data).windows[w] = s.windows[w].withCounts m n := by
  have hsame : s.windows[w] = s.windows[w].withCounts s.windows[w].liveReads0 s.windows[w].liveReads1 := rfl
  cases ht : s.port.slots[i] with
  | none => exact ⟨_, _, by simp only [State.answer, ht]; exact hsame⟩
  | some t =>
    obtain ⟨hnone, hsome⟩ := State.answer_windows ht st data
    cases hw : t.window with
    | none => exact ⟨_, _, by rw [hnone (.inl hw)]; exact hsame⟩
    | some v =>
      cases hb : t.countedBank with
      | none => exact ⟨_, _, by rw [hnone (.inr hb)]; exact hsame⟩
      | some b =>
        rw [hsome v b hw hb, vector_set_apply]
        split
        · subst_vars
          exact Window.withLiveReads_eq_withCounts _ _ _
        · exact ⟨_, _, hsame⟩

theorem State.settleWrites_window (s : State) (p : Address → Bool) (st : Status) (w : WindowId) :
    ∃ m n, (s.settleWrites p st).windows[w] = s.windows[w].withCounts m n := by
  refine foldl_keeps (fun a : State => ∃ m n, a.windows[w] = s.windows[w].withCounts m n) _ (fun a i ⟨m, n, h⟩ => ?_) _ s
    ⟨_, _, rfl⟩
  unfold State.settleSlot
  split
  · exact ⟨m, n, h⟩
  · split
    · obtain ⟨m', n', h'⟩ := a.answer_window i st [] w
      exact ⟨m', n', by rw [h', h]; rfl⟩
    · exact ⟨m, n, h⟩

/-- R95: the response to a pending write that settling answers. -/
def Transfer.settledResponse (t : Transfer) (st : Status) : Response :=
  { master := t.request.master, tag := t.request.tag, status := st, data := [] }

/-- The slots of a list hold a pending write that a response answers. -/
def State.settledBy (s : State) (p : Address → Bool) (st : Status) (l : List (Fin 8)) (r : Response) : Prop :=
  ∃ i ∈ l, ∃ t, s.port.slots[i] = some t ∧ t.isPendingWrite p ∧ r = t.settledResponse st

theorem State.settledBy_cons (s : State) (p : Address → Bool) (st : Status) (i : Fin 8) (l : List (Fin 8)) (r : Response) :
    s.settledBy p st (i :: l) r ↔ s.settledBy p st [i] r ∨ s.settledBy p st l r := by
  constructor
  · rintro ⟨j, hj, hr⟩
    rcases List.mem_cons.1 hj with rfl | hj
    · exact .inl ⟨j, List.mem_singleton_self j, hr⟩
    · exact .inr ⟨j, hj, hr⟩
  · rintro (⟨j, hj, hr⟩ | ⟨j, hj, hr⟩)
    · exact ⟨j, List.mem_cons.2 (.inl (List.mem_singleton.1 hj)), hr⟩
    · exact ⟨j, List.mem_cons_of_mem i hj, hr⟩

theorem State.settleSlot_responses (s : State) (p : Address → Bool) (st : Status) (i : Fin 8) (r : Response) :
    r ∈ (State.settleSlot p st s i).port.responses ↔ r ∈ s.port.responses ∨ s.settledBy p st [i] r := by
  by_cases hp : ∃ t, s.port.slots[i] = some t ∧ t.isPendingWrite p
  · obtain ⟨t, ht, hp⟩ := hp
    obtain ⟨-, hwrite, -⟩ := id hp
    rw [State.settleSlot_of_pending ht hp, State.answer_responses ht, List.mem_append, List.mem_singleton, if_pos hwrite]
    refine or_congr_right ⟨fun h => ⟨i, by simp, t, ht, hp, h⟩, ?_⟩
    rintro ⟨j, hj, u, hu, -, hr⟩
    rw [List.mem_singleton] at hj
    subst hj
    rw [ht] at hu
    cases hu
    exact hr
  · rw [State.settleSlot_of_not_pending fun t ht hpending => hp ⟨t, ht, hpending⟩]
    refine ⟨.inl, fun h => h.resolve_right ?_⟩
    rintro ⟨j, hj, u, hu, hpending, -⟩
    rw [List.mem_singleton] at hj
    subst hj
    exact hp ⟨u, hu, hpending⟩

theorem State.foldl_settleSlot_responses (p : Address → Bool) (st : Status) (r : Response) (l : List (Fin 8)) (hl : l.Nodup)
    (s : State) : r ∈ (l.foldl (State.settleSlot p st) s).port.responses ↔ r ∈ s.port.responses ∨ s.settledBy p st l r := by
  induction l generalizing s with
  | nil => simp [State.settledBy]
  | cons a l ih =>
    obtain ⟨ha, hl⟩ := List.nodup_cons.1 hl
    have hrest : (State.settleSlot p st s a).settledBy p st l r ↔ s.settledBy p st l r := by
      refine exists_congr fun i => and_congr_right fun hi => ?_
      rw [State.settleSlot_slots, if_neg fun h : a = i ∧ _ => ha (h.1 ▸ hi)]
    rw [List.foldl_cons, ih hl, State.settleSlot_responses, hrest, or_assoc, ← State.settledBy_cons]

/-- R22: settling gives a response to each pending write, and no other. -/
theorem State.settleWrites_responses (s : State) (p : Address → Bool) (st : Status) (r : Response) :
    r ∈ (s.settleWrites p st).port.responses ↔ r ∈ s.port.responses ∨ s.settledBy p st (places 8) r := by
  rw [State.settleWrites]
  generalize hplaces : places 8 = l
  have hnodup : l.Nodup := hplaces ▸ List.nodup_ofFn.2 Function.injective_id
  exact State.foldl_settleSlot_responses p st r l hnodup s

/-- What settling leaves in the table. -/
theorem State.settleWrites_slot {s : State} {p : Address → Bool} {st : Status} {i : Fin 8} {t : Transfer} :
    (s.settleWrites p st).port.slots[i] = some t ↔ s.port.slots[i] = some t ∧ ¬ t.isPendingWrite p := by
  rw [State.settleWrites_slots, State.settlesSlot]
  cases hs : s.port.slots[i] with
  | none => simp
  | some u =>
    simp only [Option.any_some, Transfer.pendingWriteIn_iff, Option.some.injEq]
    split
    · rename_i hp
      constructor
      · intro h
        cases h
      · rintro ⟨rfl, hn⟩
        exact absurd hp hn
    · rename_i hp
      constructor
      · intro h
        cases h
        exact ⟨rfl, hp⟩
      · exact fun h => congrArg some h.1

theorem State.settleWrites_slot_of_pending {s : State} {p : Address → Bool} {st : Status} {i : Fin 8} {t : Transfer}
    (ht : s.port.slots[i] = some t) (hp : t.isPendingWrite p) : (s.settleWrites p st).port.slots[i] = none := by
  cases h : (s.settleWrites p st).port.slots[i] with
  | none => rfl
  | some u =>
    obtain ⟨hu, hn⟩ := State.settleWrites_slot.1 h
    rw [ht] at hu
    cases hu
    exact absurd hp hn

/-- R22, R122: what an event that settles writes and ends with a test leaves of the port and of the locks. -/
theorem State.settlesWrites_of_settle {s b z t : State} {p : Address → Bool} {st : Status}
    (hslots : b.port.slots = s.port.slots) (hresponses : b.port.responses = []) (hlocks : b.locks = s.locks)
    (hzport : z.port = (b.settleWrites p st).port) (hport : t.port = z.retest.port)
    (htlocks : t.locks = (b.settleWrites p st).locks) : s.settlesWrites t p st := by
  have hanswered : t.port.responses = (b.settleWrites p st).port.responses := by
    rw [hport]
    simp only [State.retest_frame, hzport]
  have htslot (i : Fin 8) : t.port.slots[i] = ((b.settleWrites p st).port.slots[i]).map z.makeEntries.testedTransfer := by
    rw [hport, State.retest_slots, hzport]
  refine ⟨fun i u hu hp => ⟨?_, ?_⟩, fun a ha => ?_, fun j hj => ?_, fun j => ⟨fun hn => ?_, fun l hl => ⟨?_, fun h => ?_⟩⟩⟩
  · rw [htslot, State.settleWrites_slot_of_pending (by rw [hslots]; exact hu) hp]
    rfl
  · rw [hanswered, State.settleWrites_responses]
    exact .inr ⟨i, mem_places i, u, by rw [hslots]; exact hu, hp, rfl⟩
  · rw [hanswered, State.settleWrites_responses, hresponses] at ha
    obtain ⟨i, -, u, hu, hp, hr⟩ := ha.resolve_left fun h => nomatch h
    exact ⟨i, u, by rw [← hslots]; exact hu, hp, hr⟩
  · have hsame : (b.settleWrites p st).port.slots[j] = s.port.slots[j] := by
      cases hs : s.port.slots[j] with
      | none =>
        cases hb : (b.settleWrites p st).port.slots[j] with
        | none => rfl
        | some u =>
          have hu := (State.settleWrites_slot.1 hb).1
          rw [hslots, hs] at hu
          cases hu
      | some u => exact State.settleWrites_slot.2 ⟨by rw [hslots]; exact hs, fun hp => hj ⟨u, hs, hp⟩⟩
    rw [htslot, hsame]
    refine ⟨by simp, fun u hu v hv => ?_⟩
    rw [Option.mem_def.1 hu] at hv
    cases hv
    exact z.makeEntries.testedTransfer_retestedAs u
  · rw [htlocks]
    exact (b.settleWrites_lock p st j).1 (by rw [hlocks]; exact hn)
  · rintro ⟨i, u, hu, hp, hc⟩
    rw [htlocks]
    exact ((b.settleWrites_lock p st j).2 l (by rw [hlocks]; exact hl)).1 ⟨i, u, by rw [hslots]; exact hu, hp, hc⟩
  · rw [htlocks]
    refine ((b.settleWrites_lock p st j).2 l (by rw [hlocks]; exact hl)).2 fun i => ?_
    rintro ⟨u, hu, hp, hc⟩
    rw [hslots] at hu
    exact h i u hu hp hc

/-! ## Carry work (R22, R48) -/

theorem Copier.disown_eq (w : WindowId) (c : Copier) : c.disown w = match c with
    | .idle => .idle
    | .busy k =>
      if k.window = w ∧ k.owned = true then if k.granted = true then .busy { k with owned := false } else .idle
      else .busy k := by
  cases c with
  | idle => rfl
  | busy k =>
    simp only [Copier.disown, Bool.and_eq_true, decide_eq_true_eq]

theorem State.dropCarryWork_copier (s : State) (w : WindowId) (c : Fin 2) :
    (s.dropCarryWork w).carry.copiers[c] = s.carry.copiers[c].disown w :=
  mapTable_getElem_fin _ _ _

/-- R22, R48: an event that drops the carry work of a window and ends with a test in which no write of the window needs an
entry. -/
theorem State.dropsCarryWork_of_drop {b z : State} {w : WindowId} (hcarry : z.carry = (b.dropCarryWork w).carry)
    (hneed : ∀ i : Fin 8, ∀ t d, z.port.slots[i] = some t → t.unissued = true → z.demandNeed t = some d → d.window ≠ w) :
    z.retest.dropsCarryWork b.carry.demand b.carry.copiers w := by
  have hdemand : z.carry.demand = b.carry.demand.filter fun d => decide (d.window ≠ w) := by rw [hcarry]; rfl
  refine ⟨fun d hd => ?_, ?_, fun c => ?_⟩
  · rcases State.mem_retest_demand_need hd with h | ⟨i, t, ht, hunissued, hd⟩
    · rw [hdemand, List.mem_filter, decide_eq_true_eq] at h
      exact h.2
    · exact hneed i t d ht hunissued hd
  · rw [← hdemand]
    exact z.retest_prefix
  · have hcopiers : z.retest.carry.copiers = (b.dropCarryWork w).carry.copiers := by
      simp only [State.retest_frame, hcarry]
    rw [hcopiers, State.dropCarryWork_copier]
    cases b.carry.copiers[c] <;> simp only [Copier.disown_eq]

/-! ## Faults (R28) -/

theorem State.blockGroup_groups_events (s : State) (g : GroupId) :
    (s.blockGroup g).groups = s.groups.set g { s.groups[g] with state := .blocked } ∧
    (s.blockGroup g).events = if s.groups[g].state.isArmed then s.events.append (.armDropped g) else s.events := by
  unfold State.blockGroup
  cases hs : s.groups[g].state with
  | opened => exact ⟨rfl, rfl⟩
  | armed n late => exact ⟨rfl, rfl⟩
  | blocked =>
    have hsame : { s.groups[g] with state := .blocked } = s.groups[g] := by
      cases hg : s.groups[g]
      rw [hg] at hs
      cases hs
      rfl
    refine ⟨?_, rfl⟩
    rw [hsame]
    exact (vector_set_getElem _ _).symm

/-- R28: the record of a window that faults. -/
def Window.faultedAt (x : Window) (a : Address) : Window :=
  { x with dirty := [], carry := [], state := .faulted, faultAddress := some a }

/-- R28: the state in which the writes of a faulted window are answered. -/
def State.faulting (s : State) (w : WindowId) (a : Address) : State :=
  (s.setWindow w (s.windows[w].faultedAt a)).settleWrites s.windows[w].inRanges .error

theorem State.faultWindow_eq (s : State) (w : WindowId) (a : Address) : s.faultWindow w a =
    ((((s.faulting w a).dropCarryWork w).record (.windowFault w a)).blockGroup s.windows[w].group).testRollbacks := rfl

/-- R28: what a fault leaves of each block. -/
theorem State.faultWindow_blocks (s : State) (w : WindowId) (a : Address) :
    (s.faultWindow w a).windows = (s.faulting w a).windows ∧ (s.faultWindow w a).port = (s.faulting w a).port ∧
    (s.faultWindow w a).locks = (s.faulting w a).locks ∧ (s.faultWindow w a).carry = (s.dropCarryWork w).carry ∧
    (s.faultWindow w a).rollbacksEnd
      (s.groups.set s.windows[w].group { s.groups[s.windows[w].group] with state := .blocked })
      (if s.groups[s.windows[w].group].state.isArmed
        then (s.events.append (.windowFault w a)).append (.armDropped s.windows[w].group)
        else s.events.append (.windowFault w a)) := by
  obtain ⟨hgroups, hevents⟩ := (s.setWindow w (s.windows[w].faultedAt a)).settleWrites_groups_events
    s.windows[w].inRanges (st := .error) (by decide)
  have hcarry : (s.faulting w a).carry = s.carry := by simp [State.faulting]
  have hdrop : ((s.faulting w a).dropCarryWork w).carry = (s.dropCarryWork w).carry := by
    simp only [State.dropCarryWork, State.withCarry_carry, hcarry]
  have hg : (s.faulting w a).groups = s.groups := hgroups
  have he : (s.faulting w a).events = s.events := hevents
  rw [State.faultWindow_eq]
  generalize s.faulting w a = f at *
  obtain ⟨hbg, hbe⟩ := ((f.dropCarryWork w).record (.windowFault w a)).blockGroup_groups_events s.windows[w].group
  refine ⟨by simp, by simp, by simp, ?_, ?_⟩
  · simp only [State.testRollbacks_frame, State.blockGroup_frame, State.record_frame, hdrop]
  · have hends := (((f.dropCarryWork w).record (.windowFault w a)).blockGroup s.windows[w].group).testRollbacks_rollbacksEnd
    rw [hbg, hbe] at hends
    simp only [State.record_frame, State.dropCarryWork_frame, hg, he] at hends
    exact hends

/-- R28, R47, R75: what the failure of an owned copy's request leaves, from the state in which the result is handed over. -/
theorem State.TakesResult.copyFaults {s b : State} {k : Fin 12} {slot : MemSlot} {e : EventQueue}
    (h : s.TakesResult b k slot e) (hoffered : s.port.offered = []) {c : Fin 2} {r : CopyRecord} :
    let t := ((b.freeCopier c).faultWindow r.window r.requestAddress).retest.acceptStanding
    t.mem.slots = s.mem.slots.set k slot ∧ s.copyFaults t c r e := by
  let f := b.freeCopier c
  have hfw : f.windows = s.windows := h.windows
  have hfslots : f.port.slots = s.port.slots := h.slots
  have hfresponses : f.port.responses = [] := h.responses
  have hflocks : f.locks = s.locks := h.locks
  have hfgroups : f.groups = s.groups := h.groups
  have hfevents : f.events = e := h.events
  have hfcopiers : f.carry.copiers = s.carry.copiers.set c .idle := by
    show b.carry.copiers.set c .idle = _
    rw [h.carry]
  have hfdemand : f.carry.demand = s.carry.demand := by
    show b.carry.demand = _
    rw [h.carry]
  obtain ⟨hwindows, hport, hlocks, hcarry, hends⟩ := f.faultWindow_blocks r.window r.requestAddress
  have hframe := f.faultWindow_frame r.window r.requestAddress
  obtain ⟨htiming, hmem, hlink, hstartUp, hpins, -, -, -, hzoffered⟩ := hframe
  have hstanding : (f.faultWindow r.window r.requestAddress).retest.acceptStanding =
      (f.faultWindow r.window r.requestAddress).retest :=
    State.acceptStanding_of_none _ (by simp only [State.retest_frame, hzoffered]; exact h.offered.trans hoffered)
  dsimp only
  rw [hstanding]
  generalize hz : f.faultWindow r.window r.requestAddress = z at *
  have hzw : z.retest.windows = z.windows := by simp only [State.retest_frame]
  have haddress : r.requestAddress = match r.phase with
      | .reading => r.source
      | .writing => r.destination := by unfold CopyRecord.requestAddress; cases r.phase <;> rfl
  have hset : (f.setWindow r.window (f.windows[r.window].faultedAt r.requestAddress)).windows =
      s.windows.set r.window (s.windows[r.window].faultedAt r.requestAddress) := by
    rw [State.setWindow_windows]
    simp only [hfw]
  obtain ⟨m, n, hwindow⟩ := (f.setWindow r.window (f.windows[r.window].faultedAt r.requestAddress)).settleWrites_window
    f.windows[r.window].inRanges .error r.window
  have hfaulted : z.retest.windows[r.window] = (s.windows[r.window].faultedAt r.requestAddress).withCounts m n := by
    rw [hzw, hwindows]
    refine hwindow.trans ?_
    rw [hset, vector_set_self]
  refine ⟨?_, ⟨?_, ?_, ?_, ?_, ?_, ?_⟩, fun hinv => ?_, ?_, ?_, ?_, ?_, ?_, ?_, ?_⟩
  · simp only [State.retest_frame, hmem]
    exact congrArg MemoryPort.slots h.mem
  · rw [hfaulted]; rfl
  · rw [hfaulted]; exact congrArg some haddress
  · rw [hfaulted]; rfl
  · rw [hfaulted]; rfl
  · rw [hfaulted]; rfl
  · rw [hfaulted]; rfl
  · rw [hzw, hwindows]
    refine (State.settleWrites_windows .error fun i t ht hp => ?_).trans (hset.trans ?_)
    · have hslot : s.port.slots[i] = some t := hfslots ▸ ht
      obtain ⟨hphase, hwrite, -⟩ := hp
      obtain ⟨-, hbank, -⟩ := hinv.pendingWrites i t hslot (by simp [Transfer.unissued, hphase]) hwrite
      exact hbank
    · exact congrArg (fun a => s.windows.set r.window (s.windows[r.window].faultedAt a)) haddress
  · have hdrops := State.dropsCarryWork_of_drop (b := f) (z := z) hcarry fun i t d ht hunissued hneed => ?_
    · rw [hfcopiers, hfdemand] at hdrops
      exact hdrops
    · intro heq
      have hcarried := State.line_mem_carry_of_demandNeed hneed
      have hempty : z.windows[d.window].carry = [] := by
        simp only [heq, ← hzw, hfaulted]
        rfl
      rw [hempty] at hcarried
      exact absurd hcarried List.not_mem_nil
  · have hr := State.rollbacksEnd_congr hends hzw (by simp only [State.retest_frame]) (by simp only [State.retest_frame])
    simp only [hfgroups, hfevents, hfw, haddress] at hr
    exact hr
  · have hx : f.windows[r.window].inRanges = s.windows[r.window].inRanges := by rw [hfw]
    refine State.settlesWrites_of_settle (b := f.setWindow r.window (f.windows[r.window].faultedAt r.requestAddress))
      (z := z) hfslots hfresponses hflocks ?_ rfl ?_
    · rw [hport, ← hx]; rfl
    · simp only [State.retest_frame, hlocks, ← hx]; rfl
  · simp only [State.retest_frame, htiming]; exact h.timing
  · simp only [State.retest_frame, hlink]; exact h.link
  · simp only [State.retest_frame, hstartUp]; exact h.startUp
  · simp only [State.retest_frame, hpins]; exact h.pins

/-- Settles O30: the ERROR response to an owned copy's request. -/
theorem failedCopyFaultsWindow : Obligations.FailedCopyFaultsWindow := by
  intro s k c q n l r data hpending hbusy howned hoffered
  obtain ⟨b, d, htakes, -, hexec⟩ := exec_memResponse_of_pending hpending .error data
  have hb : b.carry.copiers[c] = .busy r := by rw [htakes.carry]; exact hbusy
  have hresult : b.handResult (.copier c) (decide (MemStatus.error = .okay)) d =
      (b.freeCopier c).faultWindow r.window r.requestAddress := State.copyResult_of_error hb howned d
  rw [hresult] at hexec
  exact ⟨_, hexec, htakes.copyFaults hoffered⟩

/-! ## Timeouts (R139) -/

/-- R178: what a failed read of the boot load leaves. -/
theorem State.TakesResult.bootFails {s b : State} {k : Fin 12} {slot : MemSlot} {e : EventQueue}
    (h : s.TakesResult b k slot e) (hoffered : s.port.offered = []) (cause : BootCause) :
    let t := (b.bootFail cause).retest.acceptStanding
    t.mem.slots = s.mem.slots.set k slot ∧ t.startUp.state = .ended ∧ t.events = e.append (.bootBad cause) ∧
      t.windows = s.windows ∧ t.groups = s.groups ∧ t.locks = s.locks ∧ t.carry.copiers = s.carry.copiers ∧
      s.keepsTransfersBut t (fun _ => False) ∧ t.port.responses = [] := by
  have hslots : (b.bootFail cause).port.slots = s.port.slots := h.slots
  have hstanding : (b.bootFail cause).retest.acceptStanding = (b.bootFail cause).retest :=
    State.acceptStanding_of_none _ (by
      simp only [State.retest_frame]
      exact h.offered.trans hoffered)
  dsimp only
  rw [hstanding]
  refine ⟨?_, ?_, ?_, ?_, ?_, ?_, ?_, State.keepsTransfersBut_retest fun j _ => by rw [hslots], ?_⟩
  · simp only [State.retest_frame]
    exact congrArg MemoryPort.slots h.mem
  · simp only [State.retest_frame]
    rfl
  · simp only [State.retest_frame]
    exact congrArg (EventQueue.append (.bootBad cause)) h.events
  · simp only [State.retest_frame]
    exact h.windows
  · simp only [State.retest_frame]
    exact h.groups
  · simp only [State.retest_frame]
    exact h.locks
  · simp only [State.retest_frame]
    exact congrArg CarryEngine.copiers h.carry
  · simp only [State.retest_frame]
    exact h.responses

/-- Settles O31: a timeout, by the owner of its request. -/
theorem timeoutRecordsFencesAndFails : Obligations.TimeoutRecordsFencesAndFails := by
  intro s k q o n l hpending hlimit hoffered
  obtain ⟨b, htakes, hexec⟩ := exec_memTimeout_of_pending hpending hlimit
  refine ⟨fun i u a ho hslot hphase hfirst hshadow => ?_, fun c r ho hbusy howned => ?_, fun c r ho hbusy howned => ?_,
    fun ho => ?_⟩
  · subst ho
    have hwindow : s.timeoutWindow (.transfer i .first) = u.window := by simp only [State.timeoutWindow, hslot]
    rw [hwindow] at htakes
    have hdone : (u.withResult .first false).first.done = true := by
      simp only [Transfer.withResult, hfirst]
      rfl
    have hdone' : (u.withResult .first false).shadow.done = true := by
      show u.shadow.done = true
      rw [hshadow]
      rfl
    have hstatus : (u.withResult .first false).finalStatus = .error := by
      simp only [Transfer.finalStatus, Transfer.withResult, hfirst]
      rfl
    obtain ⟨hmem, hends⟩ := htakes.endsTransfer hoffered hslot [] hdone hdone'
    rw [hstatus] at hends
    exact ⟨_, hexec, (congrArg MemoryPort.slots hmem).trans (congrArg MemoryPort.slots htakes.mem), hends⟩
  · subst ho
    have hwindow : s.timeoutWindow (.copier c) = some r.window := by simp only [State.timeoutWindow, hbusy]
    rw [hwindow] at htakes
    have hb : b.carry.copiers[c] = .busy r := by rw [htakes.carry]; exact hbusy
    have hresult : b.handResult (.copier c) false [] = (b.freeCopier c).faultWindow r.window r.requestAddress :=
      State.copyResult_of_error hb howned []
    rw [hresult] at hexec
    exact ⟨_, hexec, htakes.copyFaults hoffered⟩
  · subst ho
    have hwindow : s.timeoutWindow (.copier c) = some r.window := by simp only [State.timeoutWindow, hbusy]
    rw [hwindow] at htakes
    have hb : b.carry.copiers[c] = .busy r := by rw [htakes.carry]; exact hbusy
    have hresult : b.handResult (.copier c) false [] = b.setCopier c .idle := State.copyResult_of_disowned hb howned _ _
    rw [hresult] at hexec
    obtain ⟨hmem, hcopiers, hdemand, hkeep, hresponses, hw, hg, -, hlo, he, -, -, -⟩ :=
      htakes.movesCopier hoffered c .idle
    exact ⟨_, hexec, hmem, hcopiers, he, hw, hg, hlo, hdemand, hkeep, hresponses⟩
  · subst ho
    exact ⟨_, hexec, htakes.bootFails hoffered .memory⟩

end Sys2Proof.Machine
end

section
/-! Proofs about ENABLE (R23, R24), DISABLE (R26) and SUSPEND (R27): what they settle and what they leave. -/

namespace Sys2Proof.Machine

open Sys2Proof

/-! ## A window that changes while its pending writes are settled (R22) -/

/-- R98: a pending write of a window lies in its home range. -/
theorem State.Inv.inRanges_of_pending {s : State} (h : s.Inv) {i : Fin 8} {t : Transfer} {w : WindowId}
    (ht : s.port.slots[i] = some t) (hunissued : t.unissued = true) (hwrite : t.request.kind.isWrite = true)
    (hwindow : t.window = some w) : s.windows[w].inRanges t.request.address = true := by
  obtain ⟨-, -, -, hrouted⟩ := h.pendingWrites i t ht hunissued hwrite
  obtain ⟨hhome, -⟩ := hrouted w hwindow
  rw [Window.inRanges, hhome, Bool.true_or]

/-- R98: a pending write is in no live-read count. -/
theorem State.Inv.countedBank_of_pending {s : State} (h : s.Inv) {i : Fin 8} {t : Transfer} {p : Address → Bool}
    (ht : s.port.slots[i] = some t) (hpending : t.isPendingWrite p) : t.countedBank = none := by
  obtain ⟨hphase, hwrite, -⟩ := hpending
  obtain ⟨-, hbank, -⟩ := h.pendingWrites i t ht (by simp [Transfer.unissued, hphase]) hwrite
  exact hbank

/-- R22: a window takes a new record and the pending writes to some addresses are answered. -/
def State.changeSettled (s : State) (w : WindowId) (y : Window) (p : Address → Bool) (st : Status) : State :=
  (s.setWindow w y).settleWrites p st

/-- The state in which a command's owner acts: every block but the link is as before, with no output given. -/
structure State.ActsFrom (s b : State) : Prop where
  windows : b.windows = s.windows
  carry : b.carry = s.carry
  groups : b.groups = s.groups
  timing : b.timing = s.timing
  slots : b.port.slots = s.port.slots
  offered : b.port.offered = s.port.offered
  responses : b.port.responses = []
  locks : b.locks = s.locks
  mem : b.mem = s.quiet.mem
  events : b.events = s.events
  startUp : b.startUp = s.startUp
  pins : b.pins = s.pins

theorem State.taking_actsFrom (s : State) (code : Byte) : s.ActsFrom (s.taking code) :=
  ⟨rfl, rfl, rfl, rfl, rfl, rfl, rfl, rfl, rfl, rfl, rfl, rfl⟩

theorem State.ActsFrom.changeSettled {s b : State} (h : s.ActsFrom b) (hinv : s.Inv) (w : WindowId) (y : Window)
    (p : Address → Bool) {st : Status} (hst : st ≠ .okay) : (b.changeSettled w y p st).windows = s.windows.set w y ∧
      (b.changeSettled w y p st).groups = s.groups ∧ (b.changeSettled w y p st).events = s.events ∧
      (b.changeSettled w y p st).carry = s.carry ∧ (b.changeSettled w y p st).port.offered = s.port.offered := by
  obtain ⟨hgroups, hevents⟩ := (b.setWindow w y).settleWrites_groups_events p hst
  refine ⟨(State.settleWrites_windows st fun i t ht hp => ?_).trans ?_, hgroups.trans h.groups, hevents.trans h.events,
    ?_, ?_⟩
  · exact hinv.countedBank_of_pending (i := i) (h.slots ▸ ht) hp
  · rw [State.setWindow_windows, h.windows]
  · simp only [State.changeSettled, State.settleWrites_frame, State.setWindow_carry, h.carry]
  · simp only [State.changeSettled, State.settleWrites_frame, State.setWindow_port, h.offered]

theorem State.changeSettled_frame (s : State) (w : WindowId) (y : Window) (p : Address → Bool) (st : Status) :
    (s.changeSettled w y p st).timing = s.timing ∧ (s.changeSettled w y p st).mem = s.mem ∧
    (s.changeSettled w y p st).link = s.link ∧ (s.changeSettled w y p st).startUp = s.startUp ∧
    (s.changeSettled w y p st).pins = s.pins := by
  simp only [State.changeSettled, State.settleWrites_frame, State.setWindow_timing, State.setWindow_mem,
    State.setWindow_link, State.setWindow_startUp, State.setWindow_pins, and_self]

/-- R22, R122: the answers to the pending writes, as the test that ends the event leaves them. -/
theorem State.ActsFrom.settlesWrites {s b z t : State} (h : s.ActsFrom b) {w : WindowId} {y : Window}
    {p : Address → Bool} {st : Status} (hzport : z.port = (b.changeSettled w y p st).port)
    (hzlocks : z.locks = (b.changeSettled w y p st).locks) (hport : t.port = z.retest.port) (hlocks : t.locks = z.locks) :
    s.settlesWrites t p st :=
  State.settlesWrites_of_settle (b := b.setWindow w y) (z := z) h.slots h.responses h.locks hzport hport
    (hlocks.trans hzlocks)

/-! ## The group of a window that is not FAULTED (R76) -/

theorem State.memberFaulted_iff (s : State) (g : GroupId) :
    s.memberFaulted g = true ↔ ∃ w : WindowId, s.windows[w].group = g ∧ s.windows[w].state = .faulted := by
  simp only [State.memberFaulted, Window.memberOf, List.any_eq_true, mem_places, true_and, Bool.and_eq_true,
    decide_eq_true_iff]

/-- R76: the group that a window had, once the window has a record that is not FAULTED. -/
theorem State.unblockGroup_groups {s b : State} {w : WindowId} {y : Window} (hwindows : b.windows = s.windows.set w y)
    (hgroups : b.groups = s.groups) (hstate : y.state ≠ .faulted) :
    (b.unblockGroup s.windows[w].group).groups = s.groupsUnblocked w := by
  have hfaulted : b.memberFaulted s.windows[w].group = true ↔
      ∃ v : WindowId, v ≠ w ∧ s.windows[v].group = s.windows[w].group ∧ s.windows[v].state = .faulted := by
    rw [State.memberFaulted_iff]
    refine exists_congr fun v => ?_
    rw [hwindows, vector_set_apply]
    by_cases hv : w = v
    · subst hv
      simp [hstate]
    · simp [hv, Ne.symm hv]
  have hothers : (∀ v : WindowId, v ≠ w → s.windows[v].group = s.windows[w].group → s.windows[v].state ≠ .faulted) ↔
      ¬ b.memberFaulted s.windows[w].group = true := by
    rw [hfaulted]
    push Not
    rfl
  simp only [State.groupsUnblocked, hothers]
  cases hg : s.groups[s.windows[w].group].state with
  | opened => simp only [State.unblockGroup, hgroups, hg, reduceCtorEq, false_and, if_false]
  | armed n late => simp only [State.unblockGroup, hgroups, hg, reduceCtorEq, false_and, if_false]
  | blocked =>
    simp only [State.unblockGroup, hgroups, hg, true_and]
    split <;> simp [hgroups]

/-! ## ENABLE (R24) -/

/-- R24: the record of a window that ENABLE puts in SEEDING. -/
def Window.enabledBy (x : Window) : Window :=
  { x with state := .seeding, dirty := [], carry := x.everyLine, faultAddress := none }

theorem State.enableTaken_eq (s : State) (w : WindowId) : s.enableTaken w =
    ((s.changeSettled w s.windows[w].enabledBy s.windows[w].inRanges .retry).unblockGroup
      s.windows[w].group).retest.acceptStanding := rfl

theorem State.enableWindow_of_accepted {s : State} {w : WindowId} (h : s.enableTest w = .accepted) :
    s.enableWindow w = (.accepted, s.enableTaken w) := by
  simp only [State.enableWindow, h]

/-- R24, R22, R76: what ENABLE leaves of each block. -/
theorem State.ActsFrom.enableTaken {s b : State} (h : s.ActsFrom b) (hinv : s.Inv) (hoffered : s.port.offered = [])
    (w : WindowId) :
    (b.enableTaken w).windows = s.windows.set w s.windows[w].enabledBy ∧
    s.settlesWrites (b.enableTaken w) s.windows[w].inRanges .retry ∧
    (b.enableTaken w).groups = s.groupsUnblocked w ∧ (b.enableTaken w).events = s.events ∧
    s.carry.demand <+: (b.enableTaken w).carry.demand := by
  have hx : b.windows[w] = s.windows[w] := by rw [h.windows]
  obtain ⟨hwindows, hgroups, hevents, hcarry, hzoffered⟩ := h.changeSettled hinv w s.windows[w].enabledBy
    s.windows[w].inRanges (st := .retry) (by decide)
  have hunblocked := State.unblockGroup_groups hwindows hgroups (y := s.windows[w].enabledBy)
    (by simp [Window.enabledBy])
  have hsettles {z t : State} := h.settlesWrites (z := z) (t := t) (w := w) (y := s.windows[w].enabledBy)
    (p := s.windows[w].inRanges) (st := .retry)
  rw [State.enableTaken_eq, hx]
  generalize b.changeSettled w s.windows[w].enabledBy s.windows[w].inRanges .retry = a at *
  obtain ⟨huw, huc, -, hup, hul, -, hue, -⟩ := a.unblockGroup_frame s.windows[w].group
  generalize a.unblockGroup s.windows[w].group = u at *
  have hprefix := u.retest_prefix
  rw [huc, hcarry] at hprefix
  rw [State.acceptStanding_of_none u.retest (by simp only [State.retest_frame, hup, hzoffered, hoffered])]
  refine ⟨?_, hsettles hup hul rfl ?_, ?_, ?_, hprefix⟩
  · simp only [State.retest_frame, huw, hwindows]
  · simp only [State.retest_frame]
  · simp only [State.retest_frame, hunblocked]
  · simp only [State.retest_frame, hue, hevents]

/-- R164: a command on a window, by what its owner gives. -/
theorem State.command_onWindow {s : State} {w : WindowId} (htakes : s.takesCommand) (hargument : s.link.argument.toNat = w.val)
    {code : Byte} {body : State → WindowId → CommandResult × State} {result : CommandResult} {t : State}
    (h : body (s.taking code) w = (result, t)) :
    s.quiet.command code (fun s => s.onWindow (body s)) = t.withResult result := by
  rw [State.command_of_takes htakes, State.onWindow_val hargument, h]

theorem exec_enable_eq {s : State} {w : WindowId} (htakes : s.takesCommand) (hargument : s.link.argument.toNat = w.val)
    {result : CommandResult} {t : State} (h : (s.taking 0x01).enableWindow w = (result, t)) :
    exec .enable s = .next (t.withResult result) := by
  rw [exec_enable]
  exact congrArg _ (State.command_onWindow htakes hargument (body := State.enableWindow) h)

/-- What a command leaves of the link and of the blocks that its owner does not change. -/
theorem State.withResult_frame {s b t : State} {code : Byte} (hb : b = s.taking code) (result : CommandResult)
    (hlink : t.link = b.link) (htiming : t.timing = b.timing) (hmem : t.mem = b.mem) (hstartUp : t.startUp = b.startUp)
    (hpins : t.pins = b.pins) :
    (t.withResult result).link = { s.link with code := code, frame := .write 0x0002, result := result } ∧
    (t.withResult result).timing = s.timing ∧ (t.withResult result).mem = s.quiet.mem ∧
    (t.withResult result).startUp = s.startUp ∧ (t.withResult result).pins = s.pins := by
  subst hb
  refine ⟨?_, htiming, hmem, hstartUp, hpins⟩
  show { t.link with result := result } = _
  rw [hlink, State.taking_link]

/-- Settles O39: the window is SEEDING, its pending writes are answered RETRY, and its group may open. -/
theorem enableStartsSeeding : Obligations.EnableStartsSeeding := by
  intro s w hinv htakes hargument htest hoffered x
  have haccepted : (s.taking 0x01).enableWindow w = (.accepted, (s.taking 0x01).enableTaken w) :=
    State.enableWindow_of_accepted htest
  obtain ⟨hwindows, hsettles, hgroups, hevents, hprefix⟩ := (s.taking_actsFrom 0x01).enableTaken hinv hoffered w
  obtain ⟨htiming, hmem, hlink, hstartUp, hpins, -, -, hcopiers⟩ := (s.taking 0x01).enableTaken_frame w
  obtain ⟨hlink, htiming, hmem, hstartUp, hpins⟩ := State.withResult_frame rfl .accepted hlink htiming hmem hstartUp hpins
  have hexec := exec_enable_eq htakes hargument haccepted
  generalize (s.taking 0x01).enableTaken w = z at *
  exact ⟨z.withResult .accepted, hexec, hwindows, hsettles, hgroups, hlink, hevents, hcopiers, hprefix,
    htiming, hmem, hstartUp, hpins⟩

/-! ## DISABLE and SUSPEND (R26, R27) -/

theorem State.changeState_eq (s : State) (w : WindowId) (y : Window) : s.changeState w y =
    ((((s.changeSettled w y s.windows[w].inRanges .retry).dropCarryWork w).unblockGroup
      s.windows[w].group).testRollbacks).retest.acceptStanding := rfl

/-- R26, R27, R22, R76, R79: what DISABLE and SUSPEND leave when they change the record of a window. -/
theorem State.ActsFrom.changeState {s b : State} (h : s.ActsFrom b) (hinv : s.Inv) (hoffered : s.port.offered = [])
    {w : WindowId} {y : Window} (hstate : y.state ≠ .faulted) :
    (b.changeState w y).windows = s.windows.set w y ∧
    (b.changeState w y).dropsCarryWork s.carry.demand s.carry.copiers w ∧
    s.settlesWrites (b.changeState w y) s.windows[w].inRanges .retry ∧
    (b.changeState w y).rollbacksEnd (s.groupsUnblocked w) s.events := by
  have hx : b.windows[w] = s.windows[w] := by rw [h.windows]
  obtain ⟨hwindows, hgroups, hevents, hcarry, haoffered⟩ := h.changeSettled hinv w y s.windows[w].inRanges (st := .retry)
    (by decide)
  have hsettles {z t : State} := h.settlesWrites (z := z) (t := t) (w := w) (y := y) (p := s.windows[w].inRanges)
    (st := .retry)
  have hpending {i : Fin 8} {t : Transfer} (ht : (b.changeSettled w y s.windows[w].inRanges .retry).port.slots[i] = some t)
      (hunissued : t.unissued = true) (hwrite : t.request.kind.isWrite = true) : t.window ≠ some w := by
    rw [State.changeSettled, State.settleWrites_slot, State.setWindow_port] at ht
    obtain ⟨hslot, hnot⟩ := ht
    have hslot : s.port.slots[i] = some t := h.slots ▸ hslot
    exact fun hwindow => hnot ⟨of_decide_eq_true hunissued, hwrite,
      hinv.inRanges_of_pending hslot hunissued hwrite hwindow⟩
  rw [State.changeState_eq, hx]
  generalize b.changeSettled w y s.windows[w].inRanges .retry = a at *
  have hdrop : (a.dropCarryWork w).windows = s.windows.set w y := by simp only [State.dropCarryWork_frame, hwindows]
  have hunblocked := State.unblockGroup_groups hdrop (by simp only [State.dropCarryWork_frame, hgroups]) hstate
  obtain ⟨huw, huc, -, hup, hul, -, hue, -⟩ := (a.dropCarryWork w).unblockGroup_frame s.windows[w].group
  rw [State.dropCarryWork_frame a w |>.2.2.2.1] at hup
  rw [State.dropCarryWork_frame a w |>.2.2.2.2.1] at hul
  rw [State.dropCarryWork_frame a w |>.2.2.2.2.2.2.1] at hue
  generalize ((a.dropCarryWork w).unblockGroup s.windows[w].group) = u at *
  have hzp : u.testRollbacks.port = a.port := by simp only [State.testRollbacks_frame, hup]
  have hends := u.testRollbacks_rollbacksEnd
  rw [hunblocked, hue, hevents] at hends
  have hzw : u.testRollbacks.windows = s.windows.set w y := by simp only [State.testRollbacks_frame, huw, hdrop]
  have hzc : u.testRollbacks.carry = (a.dropCarryWork w).carry := by simp only [State.testRollbacks_frame, huc]
  have hzl : u.testRollbacks.locks = a.locks := by simp only [State.testRollbacks_frame, hul]
  generalize u.testRollbacks = z at *
  rw [State.acceptStanding_of_none z.retest (by simp only [State.retest_frame, hzp, haoffered, hoffered])]
  have hrw : z.retest.windows = z.windows := by simp only [State.retest_frame]
  refine ⟨hrw.trans hzw, ?_, hsettles hzp hzl rfl ?_, ?_⟩
  · rw [← hcarry]
    refine State.dropsCarryWork_of_drop hzc fun i t d ht hunissued hneed heq => ?_
    obtain ⟨v, ⟨hwindow, hwrite, -⟩, hd⟩ := State.demandNeed_some.1 hneed
    have hv : v = w := by rw [← heq, hd]; rfl
    rw [hzp] at ht
    exact hpending ht hunissued hwrite (hv ▸ hwindow)
  · simp only [State.retest_frame]
  · exact State.rollbacksEnd_congr hends hrw (by simp only [State.retest_frame]) (by simp only [State.retest_frame])

/-- R164: the same of the command. -/
theorem State.changeState_withResult {s : State} (hinv : s.Inv) (hoffered : s.port.offered = []) {w : WindowId} {y : Window}
    (hstate : y.state ≠ .faulted) (code : Byte) :
    let t := ((s.taking code).changeState w y).withResult .accepted
    t.windows = s.windows.set w y ∧ t.dropsCarryWork s.carry.demand s.carry.copiers w ∧
      s.settlesWrites t s.windows[w].inRanges .retry ∧ t.rollbacksEnd (s.groupsUnblocked w) s.events ∧
      t.link = { s.link with code := code, frame := .write 0x0002, result := .accepted } ∧ t.timing = s.timing ∧
      t.mem = s.quiet.mem ∧ t.startUp = s.startUp ∧ t.pins = s.pins := by
  obtain ⟨hwindows, hdrops, hsettles, hends⟩ := (s.taking_actsFrom code).changeState hinv hoffered (w := w) hstate
  obtain ⟨htiming, hmem, hlink, hstartUp, hpins, -, -⟩ := (s.taking code).changeState_frame w y
  obtain ⟨hlink, htiming, hmem, hstartUp, hpins⟩ := State.withResult_frame rfl .accepted hlink htiming hmem hstartUp hpins
  generalize (s.taking code).changeState w y = z at *
  exact ⟨hwindows, hdrops, hsettles, hends, hlink, htiming, hmem, hstartUp, hpins⟩

theorem exec_disable_eq {s : State} {w : WindowId} (htakes : s.takesCommand) (hargument : s.link.argument.toNat = w.val)
    {result : CommandResult} {t : State} (h : (s.taking 0x02).disableWindow w = (result, t)) :
    exec .disable s = .next (t.withResult result) := by
  rw [exec_disable]
  exact congrArg _ (State.command_onWindow htakes hargument (body := State.disableWindow) h)

theorem exec_suspend_eq {s : State} {w : WindowId} (htakes : s.takesCommand) (hargument : s.link.argument.toNat = w.val)
    {result : CommandResult} {t : State} (h : (s.taking 0x03).suspendWindow w = (result, t)) :
    exec .suspend s = .next (t.withResult result) := by
  rw [exec_suspend]
  exact congrArg _ (State.command_onWindow htakes hargument (body := State.suspendWindow) h)

theorem State.taking_withResult (s : State) (code : Byte) (result : CommandResult) :
    (s.taking code).withResult result = s.commandDone code result := rfl

/-- R26: DISABLE of a window, by its state. -/
theorem State.disableWindow_eq (s : State) (w : WindowId) :
    (s.windows[w].state = .disabled → s.disableWindow w = (.accepted, s)) ∧
    (s.windows[w].state = .homing → s.disableWindow w = (.refusedState, s)) ∧
    (s.windows[w].state ≠ .disabled → s.windows[w].state ≠ .homing →
      s.disableWindow w = (.accepted, s.changeState w s.windows[w].disabledBy)) := by
  refine ⟨fun h => ?_, fun h => ?_, fun hd hh => ?_⟩
  · simp only [State.disableWindow, h]
  · simp only [State.disableWindow, h]
  · cases h : s.windows[w].state <;> simp_all [State.disableWindow]

/-- Settles O40: by the window's state and its live bank. -/
theorem disableTurnsOffOrHomes : Obligations.DisableTurnsOffOrHomes := by
  intro s w htakes hargument x
  obtain ⟨hdisabled, hhoming, hother⟩ := (s.taking 0x02).disableWindow_eq w
  refine ⟨fun h => ?_, fun h => ?_, fun hd hh hinv hoffered => ?_⟩
  · rw [exec_disable_eq htakes hargument (hdisabled h), State.taking_withResult]
  · rw [exec_disable_eq htakes hargument (hhoming h), State.taking_withResult]
  have hchange : (s.taking 0x02).disableWindow w = (.accepted, (s.taking 0x02).changeState w x.disabledBy) :=
    hother hd hh
  have hstate : x.disabledBy.state ≠ .faulted := by unfold Window.disabledBy; split <;> simp
  obtain ⟨hwindows, hrest⟩ := State.changeState_withResult hinv hoffered (w := w) hstate 0x02
  have hexec := exec_disable_eq htakes hargument hchange
  generalize (s.taking 0x02).changeState w x.disabledBy = z at *
  refine ⟨z.withResult .accepted, hexec, fun hlive => ?_, fun hlive => ?_, hrest⟩
  · exact hwindows.trans (by simp only [Window.disabledBy, hlive])
  · exact hwindows.trans (by simp only [Window.disabledBy, hlive]; rfl)

/-- R27: SUSPEND of a window, by its state. -/
theorem State.suspendWindow_eq (s : State) (w : WindowId) :
    (s.windows[w].state = .suspended → s.suspendWindow w = (.accepted, s)) ∧
    (s.windows[w].state = .disabled ∨ s.windows[w].state = .homing → s.suspendWindow w = (.refusedState, s)) ∧
    (s.windows[w].state = .seeding ∨ s.windows[w].state = .active ∨ s.windows[w].state = .faulted →
      s.suspendWindow w = (.accepted, s.changeState w s.windows[w].suspendedBy)) := by
  refine ⟨fun h => ?_, fun h => ?_, fun h => ?_⟩
  · simp only [State.suspendWindow, h]
  · rcases h with h | h <;> simp only [State.suspendWindow, h]
  · rcases h with h | h | h <;> simp only [State.suspendWindow, h]

/-- Settles O41: by the window's state. -/
theorem suspendStopsPublishing : Obligations.SuspendStopsPublishing := by
  intro s w htakes hargument x
  obtain ⟨hsuspended, hrefused, hother⟩ := (s.taking 0x03).suspendWindow_eq w
  refine ⟨fun h => ?_, fun h => ?_, fun h hinv hoffered => ?_⟩
  · rw [exec_suspend_eq htakes hargument (hsuspended h), State.taking_withResult]
  · rw [exec_suspend_eq htakes hargument (hrefused h), State.taking_withResult]
  have hchange : (s.taking 0x03).suspendWindow w = (.accepted, (s.taking 0x03).changeState w x.suspendedBy) := hother h
  have hleaves := State.changeState_withResult hinv hoffered (w := w) (y := x.suspendedBy) (by simp [Window.suspendedBy]) 0x03
  have hexec := exec_suspend_eq htakes hargument hchange
  generalize (s.taking 0x03).changeState w x.suspendedBy = z at *
  exact ⟨z.withResult .accepted, hexec, hleaves⟩

end Sys2Proof.Machine
end

section
/-! Proofs about the take of a copier (R42, R43), the samples of the SYNC inputs and the close timers (R84, R87), ROLLBACK
(R78, R54) and SOFT_RESET (R167). -/

namespace Sys2Proof.Machine

open Sys2Proof

/-! ## The take (R43) -/

theorem exec_copierTake (s : State) : exec .copierTake s = execCopierTake s := rfl

/-- R42: C0 before C1. -/
theorem State.idleCopier_some {s : State} {c : Fin 2} :
    s.idleCopier = some c ↔ s.carry.copiers[c] = .idle ∧ ∀ d : Fin 2, d < c → s.carry.copiers[d] ≠ .idle := by
  rw [State.idleCopier, placesWhere_head_some]
  simp only [decide_eq_true_eq, decide_eq_false_iff_not, ne_eq]

theorem State.nextCopy_some {s : State} {c : Fin 2} {w : WindowId} {line : Nat} {origin : CopyOrigin}
    (hidle : s.idleCopier = some c) (hfirst : s.firstCandidate = some (w, line, origin)) :
    s.nextCopy = some (c, w, line, origin) := by
  simp only [State.nextCopy, hidle, hfirst]

theorem exec_copierTake_of_candidate {s : State} {c : Fin 2} {w : WindowId} {line : Nat} {origin : CopyOrigin}
    (hidle : s.idleCopier = some c) (hfirst : s.firstCandidate = some (w, line, origin)) :
    exec .copierTake s = .next (s.quiet.takeLine c w line origin) := by
  have hnext : s.quiet.nextCopy = some (c, w, line, origin) := State.nextCopy_some (s := s) hidle hfirst
  simp only [exec_copierTake, execCopierTake, hnext]

/-- Settles O33: the first idle copier takes the first candidate. -/
theorem copierTakesFirstCandidate : Obligations.CopierTakesFirstCandidate := by
  intro s c w line origin hidle hbefore hfirst
  have hexec := exec_copierTake_of_candidate (State.idleCopier_some.2 ⟨hidle, hbefore⟩) hfirst
  let b := (s.quiet.setCopier c (.busy (s.quiet.copyOf w line origin))).withCarry
    { (s.quiet.setCopier c (.busy (s.quiet.copyOf w line origin))).carry with nextTake := s.carry.nextTake + 1 }
  have hb : s.quiet.takeLine c w line origin = b.retest := rfl
  rw [hb] at hexec
  refine ⟨b.retest, hexec, ?_, b.retest_prefix, State.keepsTransfersBut_retest fun j _ => rfl, ?_, ?_, ?_⟩
  · simp only [State.retest_frame]
    rfl
  · simp only [State.retest_frame]
    rfl
  · simp only [State.retest_frame]
    rfl
  · simp only [State.keepsOtherBlocks, State.retest_frame]
    exact ⟨rfl, rfl, rfl, rfl, rfl, rfl, rfl, rfl⟩

/-! ## Samples and edges (R84), close timers (R87) -/

theorem exec_syncRisingEdge (i : Fin 2) (level : Bool) (s : State) :
    exec (.syncRisingEdge i level) s = execSyncRisingEdge i level s := rfl

theorem exec_closeTimerExpiry (e : SourceId) (s : State) : exec (.closeTimerExpiry e) s = execCloseTimerExpiry e s := rfl

/-- R84: without an edge found, the event moves only the line. -/
theorem exec_syncRisingEdge_of_none {s : State} {i : Fin 2} (h : s.timing.edges[i] = false) (level : Bool) :
    exec (.syncRisingEdge i level) s = .next (s.quiet.syncLevel i level) := by
  have hclear : (s.quiet.syncLevel i level).clearEdge i = s.quiet.syncLevel i level := State.clearEdge_of_none _ i h
  simp only [exec_syncRisingEdge, execSyncRisingEdge, h, Bool.false_and, Bool.false_eq_true, if_false, hclear]

/-- R84, R93: an edge found is a boundary, but for a reset that is held. -/
theorem exec_syncRisingEdge_of_edge {s : State} {i : Fin 2} (h : s.timing.edges[i] = true) (level : Bool) :
    exec (.syncRisingEdge i level) s = .next (if s.resetHeld then (s.quiet.syncLevel i level).clearEdge i
      else ((s.quiet.syncLevel i level).clearEdge i).boundaryOf (syncSource i)) := by
  simp only [exec_syncRisingEdge, execSyncRisingEdge, h, Bool.true_and]
  cases s.resetHeld <;> rfl

/-- R84: a change of level leaves no trace of the one before it. -/
theorem State.syncLevel_syncLevel (s : State) (i : Fin 2) (a b : Bool) :
    (s.syncLevel i a).quiet.syncLevel i b = s.quiet.syncLevel i b := by
  have hset : (s.pins.syncHigh.set i a).set i b = s.pins.syncHigh.set i b := Vector.set_set ..
  show s.quiet.withPins { s.pins with syncHigh := (s.pins.syncHigh.set i a).set i b } = _
  rw [hset]
  rfl

theorem State.tick_timing_of_resetHeld {s : State} (h : s.resetHeld = true) : s.tick.timing = s.timing := by
  by_cases hp : s.pins.pwrupLow = true
  · rw [State.tick_of_pwrupLow hp]
    rfl
  · have hr : s.pins.rstLow = true := by simpa [State.resetHeld, hp] using h
    rw [State.tick_of_rstLow (Bool.eq_false_iff.2 hp) hr]
    rfl

/-- R84: while no reset is held a tick samples both inputs. -/
theorem State.tick_samples {s : State} (h : s.resetHeld = false) (i : Fin 2) :
    s.tick.timing.lastSample[i] = some s.pins.syncHigh[i] ∧ s.tick.timing.edges[i] =
      (s.timing.edges[i] || s.pins.syncHigh[i] && decide (s.timing.lastSample[i] = some false)) := by
  rw [State.tick_of_open h]
  obtain ⟨-, hlast, hedges⟩ := EpochTiming.sampled_fields { s.timing with
    sources := mapTable (fun _ r => { r with closeTimer := r.closeTimer.tick }) s.timing.sources } s.pins.syncHigh
  exact ⟨hlast i, hedges i⟩

/-- Settles O34: samples, edges and expiries. -/
theorem syncSamplesAndCloseTimerMoveSources : Obligations.SyncSamplesAndCloseTimerMoveSources := by
  refine ⟨fun s => ⟨State.tick_timing_of_resetHeld, fun i h => ?_⟩, fun s i level => ?_, fun s e h => ?_⟩
  · obtain ⟨hlast, hedges⟩ := State.tick_samples h i
    refine ⟨hlast, ?_⟩
    rw [hedges, Bool.or_eq_true, Bool.and_eq_true, decide_eq_true_iff]
  · intro moved taken
    refine ⟨fun h => ⟨exec_syncRisingEdge_of_none h level, fun next => ?_⟩, fun h hr => ?_, fun h hr => ?_⟩
    · rw [exec_syncRisingEdge_of_none h next, exec_syncRisingEdge_of_none (s := moved) h next]
      exact congrArg _ (s.quiet.syncLevel_syncLevel i level next)
    · rw [exec_syncRisingEdge_of_edge h, if_pos hr]
      rfl
    · rw [exec_syncRisingEdge_of_edge h, if_neg (by rw [hr]; decide)]
      rfl
  · have hq : s.quiet.timing.sources[e].closeTimer = .expiring := h
    simp only [exec_closeTimerExpiry, execCloseTimerExpiry, hq, if_true]
    rfl

/-! ## ROLLBACK (R78, R54) -/

/-- R54: what the first step of ROLLBACK leaves of a window. -/
theorem State.rollBackMembers_window (s : State) (g : GroupId) (w : WindowId) :
    (s.windows[w].group = g → s.windows[w].state = .seeding ∨ s.windows[w].state = .active →
      (s.rollBackMembers g).windows[w] =
        { s.windows[w] with carry := LineSet.union s.windows[w].dirty s.windows[w].carry, dirty := [] }) ∧
    (s.windows[w].group ≠ g ∨ s.windows[w].state ≠ .seeding ∧ s.windows[w].state ≠ .active →
      (s.rollBackMembers g).windows[w] = s.windows[w]) := by
  have hwindow : (s.rollBackMembers g).windows[w] =
      if s.windows[w].memberOf g then s.windows[w].rolledBack else s.windows[w] := by
    simp only [State.rollBackMembers, State.withWindows_windows, mapTable_getElem_fin]
  rw [hwindow]
  refine ⟨fun hg hstate => ?_, fun h => ?_⟩
  · rw [if_pos (show s.windows[w].memberOf g = true from decide_eq_true hg), Window.rolledBack, if_pos]
    rcases hstate with h | h <;> rw [h] <;> rfl
  · rcases h with hg | ⟨hseeding, hactive⟩
    · exact if_neg (by simpa [Window.memberOf] using hg)
    · split
      · rw [Window.rolledBack, if_neg]
        cases hs : s.windows[w].state <;> simp_all [WindowState.servesTwo]
      · rfl

/-- R78: what the second step of ROLLBACK leaves of the group and of the event queue. -/
theorem State.dropArming_groups_events (s : State) (g : GroupId) :
    (s.dropArming g).groups = s.groups.set g { s.groups[g] with
      state := if s.groups[g].state.isArmed then .opened else s.groups[g].state } ∧
    (s.dropArming g).events = if s.groups[g].state.isArmed then s.events.append (.armDropped g) else s.events := by
  have hsame : s.groups.set g { s.groups[g] with state := s.groups[g].state } = s.groups := vector_set_getElem _ _
  unfold State.dropArming
  cases hs : s.groups[g].state with
  | opened =>
    rw [hs] at hsame
    exact ⟨hsame.symm, rfl⟩
  | armed n late => exact ⟨rfl, rfl⟩
  | blocked =>
    rw [hs] at hsame
    exact ⟨hsame.symm, rfl⟩

theorem State.dropArming_frame (s : State) (g : GroupId) :
    (s.dropArming g).windows = s.windows ∧ (s.dropArming g).carry = s.carry ∧ (s.dropArming g).port = s.port := by
  unfold State.dropArming
  split <;> exact ⟨rfl, rfl, rfl⟩

/-- R78: the state in which ROLLBACK tests the marks. -/
def State.rolledBack (s : State) (g : GroupId) : State :=
  let a := (s.rollBackMembers g).dropArming g
  a.setGroup g { a.groups[g] with rollbackPending := true }

theorem State.rollbackGroup_eq (s : State) (g : GroupId) : s.rollbackGroup g = (s.rolledBack g).testRollbacks.retest := rfl

theorem State.rolledBack_blocks (s : State) (g : GroupId) :
    (s.rolledBack g).windows = (s.rollBackMembers g).windows ∧ (s.rolledBack g).carry = s.carry ∧
    (s.rolledBack g).port = s.port ∧
    (s.rolledBack g).groups = s.groups.set g { s.groups[g] with
      state := if s.groups[g].state.isArmed then .opened else s.groups[g].state
      rollbackPending := true } ∧
    (s.rolledBack g).events = if s.groups[g].state.isArmed then s.events.append (.armDropped g) else s.events := by
  obtain ⟨hgroups, hevents⟩ := (s.rollBackMembers g).dropArming_groups_events g
  obtain ⟨hwindows, hcarry, hport⟩ := (s.rollBackMembers g).dropArming_frame g
  refine ⟨hwindows, hcarry, hport, ?_, hevents⟩
  show (((s.rollBackMembers g).dropArming g).groups).set g
    { ((s.rollBackMembers g).dropArming g).groups[g] with rollbackPending := true } = _
  simp only [hgroups, vector_set_self, Vector.set_set]
  rfl

/-- R78, R54, R79: what ROLLBACK of a group leaves of each block. -/
theorem State.ActsFrom.rollbackGroup {s b : State} (h : s.ActsFrom b) (g : GroupId) :
    (b.rollbackGroup g).windows = (s.rollBackMembers g).windows ∧
    (b.rollbackGroup g).rollbacksEnd
      (s.groups.set g { s.groups[g] with
        state := if s.groups[g].state.isArmed then .opened else s.groups[g].state
        rollbackPending := true })
      (if s.groups[g].state.isArmed then s.events.append (.armDropped g) else s.events) ∧
    s.keepsTransfersBut (b.rollbackGroup g) (fun _ => False) ∧
    s.carry.demand <+: (b.rollbackGroup g).carry.demand := by
  obtain ⟨hwindows, hcarry, hport, hgroups, hevents⟩ := b.rolledBack_blocks g
  have hmembers : (b.rollBackMembers g).windows = (s.rollBackMembers g).windows := by
    simp only [State.rollBackMembers, State.withWindows_windows, h.windows]
  rw [State.rollbackGroup_eq]
  generalize b.rolledBack g = a at *
  have hends := a.testRollbacks_rollbacksEnd
  simp only [hgroups, hevents, h.groups, h.events] at hends
  have hzw : a.testRollbacks.windows = a.windows := by simp only [State.testRollbacks_frame]
  have hzc : a.testRollbacks.carry = s.carry := by simp only [State.testRollbacks_frame, hcarry, h.carry]
  have hzs : a.testRollbacks.port.slots = s.port.slots := by simp only [State.testRollbacks_frame, hport, h.slots]
  have hprefix := a.testRollbacks.retest_prefix
  rw [hzc] at hprefix
  have hrw : a.testRollbacks.retest.windows = a.testRollbacks.windows := by simp only [State.retest_frame]
  refine ⟨((hrw.trans hzw).trans hwindows).trans hmembers, ?_, State.keepsTransfersBut_retest fun j _ => by rw [hzs],
    hprefix⟩
  exact State.rollbacksEnd_congr hends hrw (by simp only [State.retest_frame]) (by simp only [State.retest_frame])

/-- Settles O43: the test of a mark, and the four steps of ROLLBACK. -/
theorem rollbackReturnsStagedLines : Obligations.RollbackReturnsStagedLines := by
  refine ⟨fun s g => ⟨fun hp hclean => ?_, fun h => ?_⟩, fun s g htakes hargument => ?_⟩
  · exact (s.testRollback_eq g).1 ⟨hp, hclean⟩
  · refine (s.testRollback_eq g).2 fun ⟨hp, hclean⟩ => ?_
    rcases h with h | ⟨w, hw, hcarry⟩
    · exact absurd (hp.symm.trans h) (by decide)
    · exact hcarry (hclean w hw)
  · intro e after
    have hexec : exec .rollback s = .next (((s.taking 0x05).rollbackGroup g).withResult .accepted) := by
      rw [exec_rollback, State.command_of_takes htakes, State.rollbackNamed, State.onGroup_val hargument]
    obtain ⟨hwindows, hends, hkeep, hprefix⟩ := (s.taking_actsFrom 0x05).rollbackGroup g
    obtain ⟨htiming, hlocks, hmem, hlink, hstartUp, hpins, -, -, hcopiers, hresponses, -⟩ :=
      (s.taking 0x05).rollbackGroup_frame g
    obtain ⟨hlink, htiming, hmem, hstartUp, hpins⟩ := State.withResult_frame rfl .accepted hlink htiming hmem hstartUp hpins
    generalize (s.taking 0x05).rollbackGroup g = z at *
    refine ⟨z.withResult .accepted, hexec, fun w hg hstate => ?_, fun w h => ?_, hends, hkeep, hresponses, hcopiers, hprefix,
      hlink, htiming, hlocks, hmem, hstartUp, hpins⟩
    · have hw : z.windows[w] = { s.windows[w] with
          carry := LineSet.union s.windows[w].dirty s.windows[w].carry, dirty := [] } := by
        rw [hwindows]
        exact (s.rollBackMembers_window g w).1 hg hstate
      show z.windows[w] = { s.windows[w] with carry := z.windows[w].carry, dirty := [] } ∧
        ∀ x, x ∈ z.windows[w].carry ↔ _
      rw [hw]
      exact ⟨rfl, fun x => (LineSet.mem_union x _ _).trans or_comm⟩
    · show z.windows[w] = _
      rw [hwindows]
      exact (s.rollBackMembers_window g w).2 h

/-! ## SOFT_RESET (R167) -/

/-- Settles O44: every block takes its reset but the link, the edges and the samples. -/
theorem softResetTakesEveryBlock : Obligations.SoftResetTakesEveryBlock := by
  intro s htakes hoffered
  let b := s.taking 0x07
  let z := ((b.resetBlocks.withTiming { b.timing with
    sources := mapTable (fun _ r => r.afterSoftReset) b.timing.sources }).record (.reset .soft))
  have hstanding : b.softResetTaken = z := State.acceptStanding_of_none z hoffered
  have hexec : exec .softReset s = .next (z.withResult .accepted) := by
    rw [exec_softReset, State.command_of_takes htakes, State.softResetByCommand, hstanding]
  obtain ⟨hwindows, hgroups, hslots, hlocks, hcopiers, hmem⟩ := b.resetBlocks_tables
  refine ⟨_, hexec, fun w => ?_, fun g => hgroups g, fun e => ?_, rfl, rfl, hslots, rfl, hoffered, hlocks, rfl, hcopiers,
    fun k => ?_, rfl, rfl, rfl, rfl, rfl⟩
  · exact (hwindows w).trans (Window.afterReset_eq _)
  · show (mapTable (fun _ r => r.afterSoftReset) b.timing.sources)[e] = _
    rw [mapTable_getElem_fin]
    rfl
  · exact (hmem k).trans (MemSlot.afterReset_eq _ _)

end Sys2Proof.Machine
end

section
/-! Proofs about boundaries of a source (R85, R86): each group takes the boundary by itself, so their order shows in the event
queue only (R67, log 9). -/

namespace Sys2Proof.Machine

open Sys2Proof

/-! ## A boundary at one group, block by block (R67, R71, R72) -/

/-- R67, R71, R72: a group record after a boundary, by whether its gate passes. -/
def Group.afterBoundary (x : Group) (passes : Bool) (n : Epoch) : Group :=
  match x.state with
  | .opened => x
  | .blocked => x
  | .armed c late =>
    if x.hold || late then { x with state := .armed c false }
    else match c with
      | .two => { x with state := .armed .one false }
      | .one =>
        if passes then { x with state := .opened, lastEpoch := some n } else { x with state := .armed .one false }

/-- R67: whether a boundary flips a group, by whether its gate passes. -/
def Group.flipsAtBoundary (x : Group) (passes : Bool) : Bool :=
  match x.state with
  | .opened => false
  | .blocked => false
  | .armed c late =>
    if x.hold || late then false
    else match c with
      | .two => false
      | .one => passes

theorem Group.afterBoundary_source (x : Group) (passes : Bool) (n : Epoch) :
    (x.afterBoundary passes n).source = x.source := by
  unfold Group.afterBoundary
  repeat' split
  all_goals rfl

/-- What a boundary leaves of the groups and of the windows. -/
theorem State.takeBoundary_blocks (s : State) (g : GroupId) (n : Epoch) :
    (s.takeBoundary g n).groups = s.groups.set g (s.groups[g].afterBoundary (s.gatePasses g) n) ∧
    (s.takeBoundary g n).windows =
      if s.groups[g].flipsAtBoundary (s.gatePasses g) then (s.flipMembers g n).windows else s.windows := by
  unfold State.takeBoundary Group.afterBoundary Group.flipsAtBoundary
  cases hs : s.groups[g].state with
  | opened => exact ⟨(vector_set_getElem _ _).symm, rfl⟩
  | blocked => exact ⟨(vector_set_getElem _ _).symm, rfl⟩
  | armed c late =>
    dsimp only
    by_cases hheld : (s.groups[g].hold || late) = true
    · simp only [hheld]
      exact ⟨rfl, rfl⟩
    · cases c with
      | two =>
        simp only [hheld]
        exact ⟨rfl, rfl⟩
      | one => by_cases hgate : s.gatePasses g = true <;> simp only [hheld, hgate] <;> exact ⟨rfl, rfl⟩

/-- R67: a boundary changes no group's source. -/
theorem State.takeBoundary_source (s : State) (g h : GroupId) (n : Epoch) :
    (s.takeBoundary g n).groups[h].source = s.groups[h].source := by
  rw [(s.takeBoundary_blocks g n).1, vector_set_apply]
  split
  · subst_vars
    exact Group.afterBoundary_source _ _ _
  · rfl

theorem State.takeBoundary_group_of_ne (s : State) {g h : GroupId} (hne : g ≠ h) (n : Epoch) :
    (s.takeBoundary g n).groups[h] = s.groups[h] := by
  rw [(s.takeBoundary_blocks g n).1, vector_set_apply, if_neg hne]

/-- R57, R71: a boundary at a group changes no window of another group, and no window's group. -/
theorem State.takeBoundary_window_of_ne (s : State) {g : GroupId} {w : WindowId} (hne : s.windows[w].group ≠ g) (n : Epoch) :
    (s.takeBoundary g n).windows[w] = s.windows[w] := by
  rw [(s.takeBoundary_blocks g n).2]
  split
  · rw [State.flipMembers_window, if_neg]
    exact fun hp => hne ((s.windows[w].partOf_iff g).1 hp).1
  · rfl

theorem State.takeBoundary_windowGroup (s : State) (g : GroupId) (w : WindowId) (n : Epoch) :
    (s.takeBoundary g n).windows[w].group = s.windows[w].group := by
  rw [(s.takeBoundary_blocks g n).2]
  split
  · rw [State.flipMembers_window]
    split <;> rfl
  · rfl

/-! ## Boundaries at different groups do not meet -/

/-- Two states agree on a group, its members and the locks. -/
structure State.AgreesOn (s t : State) (g : GroupId) : Prop where
  group : t.groups[g] = s.groups[g]
  locks : t.locks = s.locks
  windowGroup : ∀ w : WindowId, t.windows[w].group = s.windows[w].group
  member : ∀ w : WindowId, s.windows[w].group = g → t.windows[w] = s.windows[w]

theorem State.producerLocked_congr {s t : State} (h : t.locks = s.locks) (producers : BitVec 16) (x : Window) :
    t.producerLocked producers x = s.producerLocked producers x := by
  simp only [State.producerLocked, h]

theorem State.AgreesOn.gatePasses {s t : State} {g : GroupId} (h : s.AgreesOn t g) : t.gatePasses g = s.gatePasses g := by
  rw [Bool.eq_iff_iff, State.gatePasses_iff, State.gatePasses_iff]
  refine forall_congr' fun w => ?_
  by_cases hw : s.windows[w].group = g
  · rw [h.member w hw]
    simp only [State.memberReady_iff, h.group, State.producerLocked_congr h.locks]
  · have hs : ¬ s.windows[w].partOf g = true := fun hp => hw ((s.windows[w].partOf_iff g).1 hp).1
    have ht : ¬ t.windows[w].partOf g = true := fun hp =>
      hw ((h.windowGroup w).symm.trans ((t.windows[w].partOf_iff g).1 hp).1)
    exact ⟨fun _ hp => absurd hp hs, fun _ hp => absurd hp ht⟩

/-- R67: what a boundary at a group does depends on that group, its members and the locks only. -/
theorem State.AgreesOn.takeBoundary {s t : State} {g : GroupId} (h : s.AgreesOn t g) (n : Epoch) :
    (t.takeBoundary g n).groups[g] = (s.takeBoundary g n).groups[g] ∧
    ∀ w : WindowId, s.windows[w].group = g → (t.takeBoundary g n).windows[w] = (s.takeBoundary g n).windows[w] := by
  obtain ⟨hsg, hsw⟩ := s.takeBoundary_blocks g n
  obtain ⟨htg, htw⟩ := t.takeBoundary_blocks g n
  refine ⟨?_, fun w hw => ?_⟩
  · rw [hsg, htg, vector_set_self, vector_set_self, h.group, h.gatePasses]
  · rw [hsw, htw, h.group, h.gatePasses]
    split
    · rw [State.flipMembers_window, State.flipMembers_window, h.member w hw]
    · exact h.member w hw

theorem State.takeBoundary_agreesOn (s : State) {g h : GroupId} (hne : g ≠ h) (n : Epoch) :
    s.AgreesOn (s.takeBoundary g n) h where
  group := s.takeBoundary_group_of_ne hne n
  locks := by simp only [State.takeBoundary_frame]
  windowGroup w := s.takeBoundary_windowGroup g w n
  member w hw := s.takeBoundary_window_of_ne (fun hg => hne (hg.symm.trans hw)) n

/-! ## A boundary at every group that names its source (R67) -/

/-- R67: a boundary at the groups of a list that a test chooses. -/
def State.boundaryAtSome (l : List GroupId) (chosen : GroupId → Prop) [DecidablePred chosen] (n : Epoch) (s : State) : State :=
  l.foldl (fun a g => if chosen g then a.takeBoundary g n else a) s

/-- R67: no boundary changes which groups name the source. -/
theorem State.foldl_boundaryAtGroup (e : SourceId) (n : Epoch) (l : List GroupId) {s a : State}
    (h : ∀ g : GroupId, a.groups[g].source = s.groups[g].source) :
    l.foldl (State.boundaryAtGroup e n) a = a.boundaryAtSome l (fun g => s.groups[g].source = e) n := by
  induction l generalizing a with
  | nil => rfl
  | cons g l ih =>
    have hstep : State.boundaryAtGroup e n a g = if s.groups[g].source = e then a.takeBoundary g n else a := by
      rw [State.boundaryAtGroup, h]
    rw [List.foldl_cons, hstep]
    refine ih fun k => ?_
    split
    · rw [State.takeBoundary_source, h]
    · exact h k

/-- R67: what the boundaries leave of each group and of each window. -/
theorem State.boundaryAtSome_tables {l : List GroupId} (hl : l.Nodup) (chosen : GroupId → Prop) [DecidablePred chosen]
    (n : Epoch) (a : State) :
    (∀ g : GroupId, (a.boundaryAtSome l chosen n).groups[g] =
      if g ∈ l ∧ chosen g then (a.takeBoundary g n).groups[g] else a.groups[g]) ∧
    (∀ w : WindowId, (a.boundaryAtSome l chosen n).windows[w] =
      if a.windows[w].group ∈ l ∧ chosen a.windows[w].group then (a.takeBoundary a.windows[w].group n).windows[w]
      else a.windows[w]) := by
  induction l generalizing a with
  | nil => exact ⟨fun g => by simp [State.boundaryAtSome], fun w => by simp [State.boundaryAtSome]⟩
  | cons h l ih =>
    obtain ⟨hh, hl⟩ := List.nodup_cons.1 hl
    by_cases hc : chosen h
    · have hcons : a.boundaryAtSome (h :: l) chosen n = (a.takeBoundary h n).boundaryAtSome l chosen n := by
        rw [State.boundaryAtSome, List.foldl_cons, if_pos hc]
        rfl
      obtain ⟨hgroups, hwindows⟩ := ih hl (a.takeBoundary h n)
      rw [hcons]
      refine ⟨fun g => ?_, fun w => ?_⟩
      · rw [hgroups g]
        by_cases hg : g = h
        · subst hg
          simp [hh, hc]
        · obtain ⟨hgroup, -⟩ := (a.takeBoundary_agreesOn (Ne.symm hg) n).takeBoundary n
          rw [hgroup, a.takeBoundary_group_of_ne (Ne.symm hg)]
          simp [hg, -Fin.getElem_fin]
      · rw [hwindows w, a.takeBoundary_windowGroup]
        by_cases hg : a.windows[w].group = h
        · simp [hg, hh, hc, -Fin.getElem_fin]
        · obtain ⟨-, hwindow⟩ := (a.takeBoundary_agreesOn (Ne.symm hg) n).takeBoundary n
          rw [hwindow w rfl, a.takeBoundary_window_of_ne hg]
          simp [hg, -Fin.getElem_fin]
    · have hcons : a.boundaryAtSome (h :: l) chosen n = a.boundaryAtSome l chosen n := by
        rw [State.boundaryAtSome, List.foldl_cons, if_neg hc]
        rfl
      obtain ⟨hgroups, hwindows⟩ := ih hl a
      rw [hcons]
      refine ⟨fun g => ?_, fun w => ?_⟩
      · rw [hgroups g]
        by_cases hg : g = h
        · subst hg
          simp [hh, hc]
        · simp [hg, -Fin.getElem_fin]
      · rw [hwindows w]
        by_cases hg : a.windows[w].group = h
        · simp [hg, hh, hc, -Fin.getElem_fin]
        · simp [hg, -Fin.getElem_fin]

/-! ## A boundary of a source (R86) -/

/-- R86, R87: the record of a source after a boundary. -/
theorem Source.atBoundary_eq (x : Source) : x.atBoundary =
    { counter := x.counter + 1
      phase := .opened
      closeDelay := x.closeDelay
      closeTimer := if x.closeDelay = 0 then .stopped else .running x.closeDelay } := rfl

/-- R86: the state in which the transfers are tested after a boundary. -/
def State.bounded (s : State) (e : SourceId) (n : Epoch) : State :=
  (s.setSource e s.timing.sources[e].atBoundary).boundaryAtSome (places 4) (fun g => s.groups[g].source = e) n

theorem State.boundaryOf_eq (s : State) (e : SourceId) :
    s.boundaryOf e = (s.bounded e (s.timing.sources[e].counter + 1)).retest :=
  congrArg State.retest (State.foldl_boundaryAtGroup e _ _ fun _ => rfl)

theorem State.bounded_frame (s : State) (e : SourceId) (n : Epoch) : (s.bounded e n).carry = s.carry ∧
    (s.bounded e n).timing = { s.timing with sources := s.timing.sources.set e s.timing.sources[e].atBoundary } ∧
    (s.bounded e n).port = s.port ∧ (s.bounded e n).locks = s.locks ∧ (s.bounded e n).mem = s.mem ∧
    (s.bounded e n).link = s.link ∧ (s.bounded e n).startUp = s.startUp ∧ (s.bounded e n).pins = s.pins := by
  refine foldl_keeps (fun a : State => a.carry = s.carry ∧
    a.timing = { s.timing with sources := s.timing.sources.set e s.timing.sources[e].atBoundary } ∧ a.port = s.port ∧
    a.locks = s.locks ∧ a.mem = s.mem ∧ a.link = s.link ∧ a.startUp = s.startUp ∧ a.pins = s.pins) _ (fun a g h => ?_) _
    (s.setSource e s.timing.sources[e].atBoundary) ⟨rfl, rfl, rfl, rfl, rfl, rfl, rfl, rfl⟩
  split
  · simpa only [State.takeBoundary_frame] using h
  · exact h

theorem exec_boundary_of_takes {s : State} (h : s.takesCommand) :
    exec .boundary s = .next (((s.taking 0x06).boundaryOf 2).withResult .accepted) := by
  rw [exec_boundary, State.command_of_takes h, State.boundaryByCommand]

/-- Settles O35: the command BOUNDARY, and what a boundary of a source comes to. -/
theorem boundaryAdvancesItsSource : Obligations.BoundaryAdvancesItsSource := by
  refine ⟨fun s h => ?_, fun s e => ?_⟩
  · rw [exec_boundary_of_takes h, State.withResult]
    simp only [State.boundaryOf_frame, State.taking_link]
    rfl
  · intro n opened s1
    have hnodup : (places 4).Nodup := List.nodup_ofFn.2 Function.injective_id
    obtain ⟨hgroups, hwindows⟩ := State.boundaryAtSome_tables hnodup (fun g => s.groups[g].source = e) n s1
    obtain ⟨hcarry, htiming, hport, hlocks, hmem, hlink, hstartUp, hpins⟩ := s.bounded_frame e n
    have hof : s.boundaryOf e = (s.bounded e n).retest := s.boundaryOf_eq e
    have heq : s1.boundaryAtSome (places 4) (fun g => s.groups[g].source = e) n = s.bounded e n := rfl
    rw [heq] at hgroups hwindows
    have hwalk : (s.bounded e n).retest =
        ((places 4).foldl (fun a g => if s.groups[g].source = e then a.takeBoundary g n else a) s1).retest := rfl
    generalize s.bounded e n = z at *
    have hrw : z.retest.windows = z.windows := by simp only [State.retest_frame]
    have hrg : z.retest.groups = z.groups := by simp only [State.retest_frame]
    have hrt : z.retest.timing = z.timing := by simp only [State.retest_frame]
    have hport' : z.port.slots = s.port.slots := congrArg SystemPort.slots hport
    refine ⟨z.retest, hof, hwalk, fun g hg => ?_, fun w hw => ?_, ?_, fun d hd => ?_, ?_, ?_, fun g hg => ?_,
      fun w hw => ?_, ?_, ?_, ?_, ?_, ?_, ?_, ?_, State.keepsTransfersBut_retest fun j _ => by rw [hport']⟩
    · rw [hrg, hgroups g, if_pos ⟨mem_places g, hg⟩]
    · rw [hrw, hwindows w]
      exact if_pos ⟨mem_places _, hw⟩
    · simp only [hrt, htiming]
      exact vector_set_self _ _ _
    · simp only [hrt, htiming]
      exact (vector_set_apply _ _ _ _).trans (if_neg (Ne.symm hd))
    · rw [hrt, htiming]
    · rw [hrt, htiming]
    · rw [hrg, hgroups g, if_neg fun h => hg h.2]
      rfl
    · rw [hrw, hwindows w]
      exact if_neg fun h => hw h.2
    · simp only [State.retest_frame, hlocks]
    · simp only [State.retest_frame, hmem]
    · simp only [State.retest_frame, hlink]
    · simp only [State.retest_frame, hstartUp]
    · simp only [State.retest_frame, hpins]
    · simp only [State.retest_frame, hcarry]
    · simp only [State.retest_frame, hport]

end Sys2Proof.Machine
end

section
/-! Proofs about range bytes of a window (R5, R186) and about the layouts of the index space (R180 to R184). -/

namespace Sys2Proof.Machine

open Sys2Proof

/-! ## Range bytes (R5, R186) -/

/-- R5: the commit of a range by the window's state and the value. -/
theorem State.commitRange_eq (s : State) (w : WindowId) (after : Window) :
    (s.windows[w].state = .disabled → s.commitRange w after = s.setWindow w after) ∧
    (s.windows[w].state = .suspended → after.rangesValid = false → s.commitRange w after = s.refuseWrite) ∧
    (s.windows[w].state = .seeding ∨ s.windows[w].state = .active ∨ s.windows[w].state = .homing ∨
      s.windows[w].state = .faulted → s.commitRange w after = s.refuseWrite) ∧
    (s.windows[w].state = .suspended → after.rangesValid = true →
      s.commitRange w after = s.settleRangeChange w s.windows[w] after) := by
  refine ⟨fun h => ?_, fun h hv => ?_, fun h => ?_, fun h hv => ?_⟩
  · simp only [State.commitRange, h]
  · simp only [State.commitRange, h, hv, Bool.false_eq_true, if_false]
  · rcases h with h | h | h | h <;> simp only [State.commitRange, h]
  · simp only [State.commitRange, h, hv, if_true]

/-- R5, R160: the row of a byte that commits a range. -/
theorem exec_windowConfigWrite_commitsRange {s : State} {w : WindowId} {i : Index} {b0 b1 b2 b3 : Byte} {after : Window}
    (hboot : s.bootInProgress = false) (hframe : s.byteFrame = .write i)
    (h : i.toNat = 0x0103 + 32 * w.val ∧ s.lowerBytes (.windowBase w) i [b0, b1, b2] ∧
        after = { s.windows[w] with base := b3 ++ b2 ++ b1 ++ b0 } ∨
      i.toNat = 0x0107 + 32 * w.val ∧ s.lowerBytes (.windowTwin w) i [b0, b1, b2] ∧
        after = { s.windows[w] with twin := b3 ++ b2 ++ b1 ++ b0 } ∨
      i.toNat = 0x0108 + 32 * w.val ∧ after = { s.windows[w] with sizeCode := b3 }) :
    exec (.windowConfigWrite b3) s = .next ((s.committing.commitRange w after).advanced i) := by
  rw [exec_windowConfigWrite]
  rcases h with ⟨hi, hlow, rfl⟩ | ⟨hi, hlow, rfl⟩ | ⟨hi, rfl⟩
  · have hfield : fieldAt i = some (.windowBase w, 3) := fieldAt_window i w 3 (by decide) (by omega)
    rw [State.byteAs_committing (row := .windowConfigWrite) hframe hboot hfield rfl rfl rfl
      (s.composed_four _ rfl i b0 b1 b2 b3 hlow), State.commit, ofNat_toNat_self]
    rfl
  · have hfield : fieldAt i = some (.windowTwin w, 3) := fieldAt_window i w 7 (by decide) (by omega)
    rw [State.byteAs_committing (row := .windowConfigWrite) hframe hboot hfield rfl rfl rfl
      (s.composed_four _ rfl i b0 b1 b2 b3 hlow), State.commit, ofNat_toNat_self]
    rfl
  · have hfield : fieldAt i = some (.windowSizeCode w, 0) := fieldAt_window i w 8 (by decide) (by omega)
    rw [State.byteAs_committing (row := .windowConfigWrite) hframe hboot hfield rfl rfl rfl
      (s.composed_one _ rfl i b3 _), State.commit, ofNat_toNat_self]
    rfl

theorem State.committing_actsFrom (s : State) : s.ActsFrom s.committing :=
  ⟨rfl, rfl, rfl, rfl, rfl, rfl, rfl, rfl, rfl, rfl, rfl, rfl⟩

theorem State.settleRangeChange_of_ne {before after : Window} (h : after ≠ before) (s : State) (w : WindowId) :
    s.settleRangeChange w before after =
      (s.changeSettled w after (fun a => before.inRanges a || after.inRanges a) .retry).retest.acceptStanding :=
  if_neg (Ne.symm h)

/-- R186: what a change of a range leaves of each block. -/
theorem State.ActsFrom.settleRangeChange {s b : State} (h : s.ActsFrom b) (hinv : s.Inv) (hoffered : s.port.offered = [])
    (w : WindowId) {before after : Window} (hne : after ≠ before) :
    (b.settleRangeChange w before after).windows = s.windows.set w after ∧
    (b.settleRangeChange w before after).link = b.link ∧
    s.settlesWrites (b.settleRangeChange w before after) (fun a => before.inRanges a || after.inRanges a) .retry ∧
    (b.settleRangeChange w before after).events = s.events ∧ (b.settleRangeChange w before after).groups = s.groups ∧
    (b.settleRangeChange w before after).timing = s.timing ∧ (b.settleRangeChange w before after).mem = s.quiet.mem ∧
    (b.settleRangeChange w before after).carry.copiers = s.carry.copiers ∧
    s.carry.demand <+: (b.settleRangeChange w before after).carry.demand ∧
    (b.settleRangeChange w before after).startUp = s.startUp ∧ (b.settleRangeChange w before after).pins = s.pins := by
  obtain ⟨hwindows, hgroups, hevents, hcarry, hzoffered⟩ := h.changeSettled hinv w after
    (fun a => before.inRanges a || after.inRanges a) (st := .retry) (by decide)
  obtain ⟨htiming, hmem, hlink, hstartUp, hpins⟩ := b.changeSettled_frame w after
    (fun a => before.inRanges a || after.inRanges a) .retry
  have hsettles {z t : State} := h.settlesWrites (z := z) (t := t) (w := w) (y := after)
    (p := fun a => before.inRanges a || after.inRanges a) (st := .retry)
  rw [State.settleRangeChange_of_ne hne]
  generalize b.changeSettled w after (fun a => before.inRanges a || after.inRanges a) .retry = z at *
  have hprefix := z.retest_prefix
  rw [hcarry] at hprefix
  rw [State.acceptStanding_of_none z.retest (by simp only [State.retest_frame, hzoffered, hoffered])]
  refine ⟨?_, ?_, hsettles rfl rfl rfl ?_, ?_, ?_, ?_, ?_, ?_, hprefix, ?_, ?_⟩
  · simp only [State.retest_frame, hwindows]
  · simp only [State.retest_frame, hlink]
  · simp only [State.retest_frame]
  · simp only [State.retest_frame, hevents]
  · simp only [State.retest_frame, hgroups]
  · simp only [State.retest_frame, htiming, h.timing]
  · simp only [State.retest_frame, hmem, h.mem]
  · simp only [State.retest_frame, hcarry]
  · simp only [State.retest_frame, hstartUp, h.startUp]
  · simp only [State.retest_frame, hpins, h.pins]

/-- Settles O51: the byte that commits a range, by the window's state and the value. -/
theorem rangeBytesCommitByWindowState : Obligations.RangeBytesCommitByWindowState := by
  intro s w i b0 b1 b2 b3 after hboot hframe h before
  have hexec := exec_windowConfigWrite_commitsRange hboot hframe h
  obtain ⟨hdisabled, hinvalid, hrefused, hvalid⟩ := s.committing.commitRange_eq w after
  refine ⟨fun hs => ?_, fun hs hv => ?_, fun hs => ?_, fun hs heq hv => ?_, fun hs hne hv hinv hoffered => ?_⟩
  · rw [hexec, hdisabled hs]
    rfl
  · rw [hexec, hinvalid hs hv, State.refuseWrite_advanced]
  · rw [hexec, hrefused hs, State.refuseWrite_advanced]
  · rw [hexec, hvalid hs hv, State.settleRangeChange, if_pos (show s.committing.windows[w] = after from heq.symm),
      State.committing_advanced]
  · have hchange : s.committing.commitRange w after = s.committing.settleRangeChange w before after := hvalid hs hv
    rw [hchange] at hexec
    obtain ⟨hwindows, hlink, hsettles, hevents, hgroups, htiming, hmem, hcopiers, hprefix, hstartUp, hpins⟩ :=
      s.committing_actsFrom.settleRangeChange hinv hoffered w hne
    generalize s.committing.settleRangeChange w before after = z at *
    refine ⟨z.advanced i, hexec, hwindows, ?_, hsettles, hevents, hgroups, htiming, hmem, hcopiers, hprefix, hstartUp, hpins⟩
    show { z.link with frame := .write (i + 1) } = _
    rw [hlink]
    rfl

/-! ## The place of a field (R180 to R183) -/

/-- R180. -/
theorem fieldAt_global {i : Index} {n : Nat} (h : i.toNat = n) (hn : n < 0x100) : fieldAt i = globalField n := by
  subst h
  exact if_pos hn

/-- The fields of a record with their first offset, width and access lie one behind the other in it. -/
def laidOut (place : Nat → Option (Field × Nat)) (fields : List (Nat × Nat × Bool × Field)) : Prop :=
  ∀ p ∈ fields, p.2.2.2.width = p.2.1 ∧ p.2.2.2.readOnly = p.2.2.1 ∧ ∀ o < p.2.1, place (p.1 + o) = some (p.2.2.2, o)

/-- A record whose fields are laid out at its offsets shows them at its indices. -/
theorem laidOut_at {first size : Nat} {place : Nat → Option (Field × Nat)} {fields : List (Nat × Nat × Bool × Field)}
    (hlaid : laidOut place fields) (hsize : ∀ p ∈ fields, p.1 + p.2.1 ≤ size)
    (hplace : ∀ (i : Index) (o : Nat), o < size → i.toNat = first + o → fieldAt i = place o) :
    ∀ p ∈ fields, p.2.2.2.width = p.2.1 ∧ p.2.2.2.readOnly = p.2.2.1 ∧
      ∀ (i : Index) (o : Nat), o < p.2.1 → i.toNat = first + p.1 + o → fieldAt i = some (p.2.2.2, o) := by
  intro p hp
  obtain ⟨hwidth, haccess, hat⟩ := hlaid p hp
  refine ⟨hwidth, haccess, fun i o ho hi => ?_⟩
  rw [hplace i (p.1 + o) (by have := hsize p hp; omega) (by omega)]
  exact hat o ho

/-- R180: the places of the global fields. -/
theorem globalField_laidOut : laidOut globalField [(0x00, 1, false, .argument), (0x01, 1, false, .code),
    (0x02, 1, true, .result), (0x03, 1, false, .writeRefused), (0x04, 2, false, .holdLimit), (0x06, 2, false, .lockLimit),
    (0x08, 2, false, .memoryLimit), (0x0C, 4, false, .eventMask), (0x10, 1, true, .eventCount),
    (0x11, 1, false, .overrun), (0x20, 16, true, .headRecord)] := by
  unfold laidOut
  decide

/-- R181: the places of the fields of a window. -/
theorem windowField_laidOut (w : WindowId) : laidOut (windowField w) [(0x00, 4, false, .windowBase w),
    (0x04, 4, false, .windowTwin w), (0x08, 1, false, .windowSizeCode w), (0x09, 1, false, .windowGroup w),
    (0x0A, 1, false, .windowPolicy w), (0x0B, 1, true, .windowEnableAtBoot w), (0x0C, 16, true, .windowStatus w)] := by
  simp only [laidOut, List.forall_mem_cons, List.not_mem_nil, false_implies, implies_true, and_true]
  refine ⟨?_, ?_, ?_, ?_, ?_, ?_, ?_⟩ <;> refine ⟨rfl, rfl, fun o ho => ?_⟩ <;> interval_cases o <;> rfl

/-- R182: the places of the fields of a group. -/
theorem groupField_laidOut (g : GroupId) : laidOut (groupField g) [(0x00, 2, false, .groupProducers g),
    (0x02, 1, false, .groupSource g), (0x03, 1, false, .groupLag g), (0x04, 1, false, .groupHold g),
    (0x05, 4, false, .groupTrigger g), (0x09, 7, true, .groupStatus g)] := by
  simp only [laidOut, List.forall_mem_cons, List.not_mem_nil, false_implies, implies_true, and_true]
  refine ⟨?_, ?_, ?_, ?_, ?_, ?_⟩ <;> refine ⟨rfl, rfl, fun o ho => ?_⟩ <;> interval_cases o <;> rfl

/-- R183: the places of the fields of a source. -/
theorem sourceField_laidOut (e : SourceId) : laidOut (sourceField e) [(0x00, 4, true, .sourceCounter e),
    (0x04, 1, true, .sourcePhase e), (0x05, 3, false, .sourceCloseDelay e), (0x08, 3, true, .sourceCloseTimer e)] := by
  simp only [laidOut, List.forall_mem_cons, List.not_mem_nil, false_implies, implies_true, and_true]
  refine ⟨?_, ?_, ?_, ?_⟩ <;> refine ⟨rfl, rfl, fun o ho => ?_⟩ <;> interval_cases o <;> rfl

/-- R180: the gaps among the global fields. -/
theorem globalField_none {n : Nat} (h : 0x0A ≤ n ∧ n ≤ 0x0B ∨ 0x12 ≤ n ∧ n ≤ 0x1F ∨ 0x30 ≤ n) : globalField n = none := by
  unfold globalField
  rcases h with h | h | h
  · iterate 7 rw [if_neg (by omega)]
    rw [if_pos (by omega)]
  · iterate 11 rw [if_neg (by omega)]
    rw [if_pos (by omega)]
  · by_cases hn : n < 0x30
    · omega
    · iterate 13 rw [if_neg (by omega)]

/-- R180 to R183: the indices between the parts of the index space hold no field. -/
theorem fieldAt_none {i : Index} (h : 0x300 ≤ i.toNat ∧ i.toNat ≤ 0x3FF ∨ 0x440 ≤ i.toNat ∧ i.toNat ≤ 0x47F ∨
    0x4B0 ≤ i.toNat) : fieldAt i = none := by
  unfold fieldAt
  dsimp only
  rw [if_neg (by omega), if_neg (by omega)]
  rcases h with h | h | h
  · rw [if_pos (by omega)]
  · rw [if_neg (by omega), if_neg (by omega), if_pos (by omega)]
  · rw [if_neg (by omega), if_neg (by omega), if_neg (by omega), if_neg (by omega)]

/-- R180 to R183: the indices that hold no field. -/
theorem fieldAt_unassigned {i : Index} (h : 0x000A ≤ i.toNat ∧ i.toNat ≤ 0x000B ∨ 0x0012 ≤ i.toNat ∧ i.toNat ≤ 0x001F ∨
    0x0030 ≤ i.toNat ∧ i.toNat ≤ 0x00FF ∨ (∃ w : WindowId, 0x011C + 32 * w.val ≤ i.toNat ∧ i.toNat ≤ 0x011F + 32 * w.val) ∨
    0x0300 ≤ i.toNat ∧ i.toNat ≤ 0x03FF ∨ 0x0440 ≤ i.toNat ∧ i.toNat ≤ 0x047F ∨
    (∃ e : SourceId, 0x048B + 16 * e.val ≤ i.toNat ∧ i.toNat ≤ 0x048F + 16 * e.val) ∨ 0x04B0 ≤ i.toNat) :
    fieldAt i = none := by
  have hglobal (h : 0x0A ≤ i.toNat ∧ i.toNat ≤ 0x0B ∨ 0x12 ≤ i.toNat ∧ i.toNat ≤ 0x1F ∨ 0x30 ≤ i.toNat)
      (hlt : i.toNat < 0x100) : fieldAt i = none := (fieldAt_global rfl hlt).trans (globalField_none h)
  rcases h with h | h | h | ⟨w, h⟩ | h | h | ⟨e, h⟩ | h
  · exact hglobal (by omega) (by omega)
  · exact hglobal (by omega) (by omega)
  · exact hglobal (by omega) (by omega)
  · rw [fieldAt_window i w (i.toNat - (0x100 + 32 * w.val)) (by omega) (by omega)]
    generalize ho : i.toNat - (0x100 + 32 * w.val) = o
    have : 0x1C ≤ o := by omega
    have : o ≤ 0x1F := by omega
    interval_cases o <;> rfl
  · exact fieldAt_none (by omega)
  · exact fieldAt_none (by omega)
  · rw [fieldAt_source i e (i.toNat - (0x480 + 16 * e.val)) (by omega) (by omega)]
    generalize ho : i.toNat - (0x480 + 16 * e.val) = o
    have : 0x0B ≤ o := by omega
    have : o ≤ 0x0F := by omega
    interval_cases o <;> rfl
  · exact fieldAt_none (by omega)

/-! ## The bytes of a field (R180 to R184) -/

/-- A byte of a little-endian value. -/
theorem ofNat_div_eq_extractLsb' {n k : Nat} (v : BitVec n) (j : Nat) (hk : k = 8 * j) :
    BitVec.ofNat 8 (v.toNat / 256 ^ j) = v.extractLsb' k 8 := by
  apply BitVec.eq_of_toNat_eq
  rw [BitVec.extractLsb'_toNat, Nat.shiftRight_eq_div_pow, BitVec.toNat_ofNat, hk, pow_mul, show (2 ^ 8 : ℕ) = 256 from rfl]

theorem bytesOf_two (v : BitVec 16) : bytesOf v.toNat 2 = [v.extractLsb' 0 8, v.extractLsb' 8 8] := by
  rw [← ofNat_div_eq_extractLsb' v 0 rfl, ← ofNat_div_eq_extractLsb' v 1 rfl]
  simp [bytesOf]

theorem bytesOf_three (v : BitVec 24) :
    bytesOf v.toNat 3 = [v.extractLsb' 0 8, v.extractLsb' 8 8, v.extractLsb' 16 8] := by
  rw [← ofNat_div_eq_extractLsb' v 0 rfl, ← ofNat_div_eq_extractLsb' v 1 rfl, ← ofNat_div_eq_extractLsb' v 2 rfl]
  simp [bytesOf, Nat.div_div_eq_div_mul]

theorem bytesOf_four (v : BitVec 32) :
    bytesOf v.toNat 4 = [v.extractLsb' 0 8, v.extractLsb' 8 8, v.extractLsb' 16 8, v.extractLsb' 24 8] := by
  rw [← ofNat_div_eq_extractLsb' v 0 rfl, ← ofNat_div_eq_extractLsb' v 1 rfl, ← ofNat_div_eq_extractLsb' v 2 rfl,
    ← ofNat_div_eq_extractLsb' v 3 rfl]
  simp [bytesOf, Nat.div_div_eq_div_mul]

/-- The bytes of a value are those of its remainder. -/
theorem bytesOf_mod (n k : Nat) : bytesOf (n % 256 ^ k) k = bytesOf n k := by
  induction k generalizing n with
  | zero => rfl
  | succ k ih =>
    have hlow : BitVec.ofNat 8 (n % 256 ^ (k + 1)) = BitVec.ofNat 8 n := by
      apply BitVec.eq_of_toNat_eq
      rw [BitVec.toNat_ofNat, BitVec.toNat_ofNat]
      exact Nat.mod_mod_of_dvd n (Dvd.intro_left (256 ^ k) rfl)
    have hhigh : n % 256 ^ (k + 1) / 256 = n / 256 % 256 ^ k := by
      rw [pow_succ', Nat.mod_mul_right_div_self]
    rw [bytesOf, bytesOf, hlow, hhigh, ih]

theorem bytesOf_ofNat_two (n : Nat) : bytesOf n 2 = bytesOf (BitVec.ofNat 16 n).toNat 2 :=
  (bytesOf_mod n 2).symm

theorem bytesOf_ofNat_three (n : Nat) : bytesOf n 3 = bytesOf (BitVec.ofNat 24 n).toNat 3 :=
  (bytesOf_mod n 3).symm

/-- R182: the marks of the group status, by the two flags. -/
theorem Group.marks_eq (x : Group) : x.marks = match x.rollbackPending, x.lastEpoch.isSome with
    | false, false => 0
    | true, false => 1
    | false, true => 2
    | true, true => 3 := by
  rw [Group.marks]
  cases x.rollbackPending <;> cases x.lastEpoch.isSome <;> rfl

/-- Settles O48: the places of the fields, and the bytes that each shows. -/
theorem fieldsShowTheirLayouts : Obligations.FieldsShowTheirLayouts := by
  unfold Obligations.FieldsShowTheirLayouts
  intro le4 le3 le2 flag number layout
  have hle4 (v : BitVec 32) : bytesOf v.toNat 4 = le4 v := bytesOf_four v
  have hle3 (v : BitVec 24) : bytesOf v.toNat 3 = le3 v := bytesOf_three v
  have hle2 (v : BitVec 16) : bytesOf v.toNat 2 = le2 v := bytesOf_two v
  refine ⟨?_, fun w => ?_, fun g => ?_, fun e => ?_, fun i h => fieldAt_unassigned h, fun s => ?_, fun r => ?_⟩
  · exact laidOut_at (first := 0) (size := 0x30) globalField_laidOut (by decide)
      fun i o ho hi => fieldAt_global (hi.trans (Nat.zero_add o)) (by omega)
  · exact laidOut_at (size := 0x1C) (windowField_laidOut w) (by simp) fun i o ho hi => fieldAt_window i w o (by omega) hi
  · exact laidOut_at (size := 0x10) (groupField_laidOut g) (by simp) fun i o ho hi => fieldAt_group i g o (by omega) hi
  · exact laidOut_at (size := 0x0B) (sourceField_laidOut e) (by simp) fun i o ho hi => fieldAt_source i e o (by omega) hi
  · refine ⟨rfl, rfl, ?_, rfl, hle2 _, hle2 _, hle2 _, hle4 _, rfl, rfl, fun h => ?_, fun r rest h => ?_, fun w => ?_,
      fun g => ?_, fun e => ?_⟩
    · simp only [State.fieldBytes]
      cases s.link.result <;> rfl
    · simp only [State.fieldBytes, h]
      rfl
    · simp only [State.fieldBytes, h]
      rfl
    · refine ⟨hle4 _, hle4 _, rfl, rfl, ?_, rfl, ?_⟩
      · simp only [State.fieldBytes]
        cases s.windows[w].policy <;> rfl
      · simp only [State.fieldBytes, Window.statusBytes, optionalBytes, bytesOf_ofNat_two, hle4, hle2]
        cases s.windows[w].state <;> cases s.windows[w].live <;> rfl
    · refine ⟨hle2 _, rfl, ?_, rfl, fun h => ?_, fun v h => ?_, ?_⟩
      · simp only [State.fieldBytes]
        cases s.groups[g].lag <;> rfl
      · simp only [State.fieldBytes, h]
        rfl
      · simp only [State.fieldBytes, h, triggerBytes, bytesOf_ofNat_three, hle3]
        rfl
      · simp only [State.fieldBytes, Group.statusBytes, optionalBytes, Group.marks_eq, hle4]
        rcases s.groups[g].state with _ | ⟨_ | _, _ | _⟩ | _ <;> rfl
    · refine ⟨hle4 _, ?_, hle3 _, ?_⟩
      · simp only [State.fieldBytes]
        cases s.timing.sources[e].phase <;> rfl
      · show bytesOf s.timing.sources[e].closeTimer.remaining 3 = _
        cases s.timing.sources[e].closeTimer with
        | stopped => rfl
        | running n => exact hle3 n
        | expiring => rfl
  · intro row optional
    have hcause (c : ResetCause) : c.byte = if c = .line then 1 else 2 := by cases c <;> rfl
    cases r <;> simp only [EventRecord.bytes, recordLayout, hle4, hcause] <;> rfl

end Sys2Proof.Machine
end

section
/-! Proofs about the boot load (R173 to R178, R185): the bytes of an image, the controller's reads, and the application of a good
image. -/

namespace Sys2Proof.Machine

open Sys2Proof

/-! ## Values of an image's bytes (R185) -/

theorem imageValue_zero (bytes : List Byte) (offset : Nat) : imageValue bytes offset 0 = 0 := by
  simp [imageValue, valueOf]

/-- A byte beyond the end of the bytes counts as 0. -/
theorem imageValue_succ (bytes : List Byte) (offset n : Nat) :
    imageValue bytes offset (n + 1) = (bytes.getD offset 0).toNat + 256 * imageValue bytes (offset + 1) n := by
  by_cases h : offset < bytes.length
  · have hdrop : bytes.drop offset = bytes[offset] :: bytes.drop (offset + 1) := List.drop_eq_getElem_cons h
    rw [imageValue, imageValue, hdrop, List.take_succ_cons, valueOf, List.getD_eq_getElem _ _ h]
  · have hdrop (m : Nat) (hm : offset ≤ m) : bytes.drop m = [] := List.drop_eq_nil_of_le (by omega)
    rw [imageValue, imageValue, hdrop offset le_rfl, hdrop (offset + 1) (by omega), List.getD_eq_default _ _ (by omega)]
    simp [valueOf]

theorem imageValue_one (bytes : List Byte) (offset : Nat) : imageValue bytes offset 1 = (bytes.getD offset 0).toNat := by
  rw [imageValue_succ, imageValue_zero, Nat.mul_zero, Nat.add_zero]

/-- The value of two bytes. -/
theorem imageValue_two (bytes : List Byte) (offset : Nat) :
    imageValue bytes offset 2 = (bytes.getD (offset + 1) 0 ++ bytes.getD offset 0).toNat := by
  rw [imageValue_succ, imageValue_one, toNat_append_byte, Nat.add_comm]

theorem imageValue_three (bytes : List Byte) (offset : Nat) : imageValue bytes offset 3 =
    (bytes.getD (offset + 2) 0 ++ bytes.getD (offset + 1) 0 ++ bytes.getD offset 0).toNat := by
  rw [imageValue_succ, imageValue_two, toNat_append_byte (_ ++ _), Nat.add_comm]

theorem imageValue_four (bytes : List Byte) (offset : Nat) : imageValue bytes offset 4 =
    (bytes.getD (offset + 3) 0 ++ bytes.getD (offset + 2) 0 ++ bytes.getD (offset + 1) 0 ++ bytes.getD offset 0).toNat := by
  rw [imageValue_succ, imageValue_three, toNat_append_byte (_ ++ _ ++ _), Nat.add_comm]

/-- A value of a record of an image. -/
theorem imageValue_record (bytes : List Byte) (start : Nat) {offset n : Nat} (h : offset + n ≤ 16) :
    imageValue ((bytes.drop start).take 16) offset n = imageValue bytes (start + offset) n := by
  rw [imageValue, imageValue, List.drop_take, List.take_take, List.drop_drop, min_eq_left (by omega)]

/-- R175: the length of an image, by its header. -/
theorem imageLength_eq (bytes : List Byte) :
    imageLength bytes = 8 + 16 * (bytes.getD 5 0).toNat + 16 * (bytes.getD 4 0).toNat + 4 := by
  rw [imageLength, imageGroups, imageWindows, imageValue_one, imageValue_one]

theorem imageGroups_eq (bytes : List Byte) : imageGroups bytes = (bytes.getD 5 0).toNat := imageValue_one _ _

theorem imageWindows_eq (bytes : List Byte) : imageWindows bytes = (bytes.getD 4 0).toNat := imageValue_one _ _

/-! ## The bytes of a beat -/

/-- The eight bytes of a beat, lowest first. -/
theorem beatBytes_eq (d : Beat) : beatBytes d = [d.extractLsb' 0 8, d.extractLsb' 8 8, d.extractLsb' 16 8,
    d.extractLsb' 24 8, d.extractLsb' 32 8, d.extractLsb' 40 8, d.extractLsb' 48 8, d.extractLsb' 56 8] := by
  rw [← ofNat_div_eq_extractLsb' d 0 rfl, ← ofNat_div_eq_extractLsb' d 1 rfl, ← ofNat_div_eq_extractLsb' d 2 rfl,
    ← ofNat_div_eq_extractLsb' d 3 rfl, ← ofNat_div_eq_extractLsb' d 4 rfl, ← ofNat_div_eq_extractLsb' d 5 rfl,
    ← ofNat_div_eq_extractLsb' d 6 rfl, ← ofNat_div_eq_extractLsb' d 7 rfl]
  simp [beatBytes, bytesOf, Nat.div_div_eq_div_mul]

/-- R175, R185: the header's fields, by its beat. -/
theorem header_fields (d : Beat) :
    imageValue (beatBytes d) 0 4 = (d.setWidth 32 : BitVec 32).toNat ∧
    imageValue (beatBytes d) 6 2 = (d.extractLsb' 48 16).toNat ∧
    imageWindows (beatBytes d) = (d.extractLsb' 32 8).toNat ∧
    imageGroups (beatBytes d) = (d.extractLsb' 40 8).toNat := by
  rw [imageValue_four, imageValue_two, imageWindows_eq, imageGroups_eq, beatBytes_eq]
  simp only [List.getD_cons_zero, List.getD_cons_succ, toNat_append_byte, BitVec.extractLsb'_toNat,
    Nat.shiftRight_eq_div_pow, BitVec.toNat_setWidth, and_true]
  omega

/-- R175: the tests of a header, by its beat. -/
theorem headerFailure_beatBytes (d : Beat) :
    (d.setWidth 32 ≠ (0x32544645 : BitVec 32) ∨ d.extractLsb' 48 16 ≠ 0 →
      headerFailure (beatBytes d) = some .signature) ∧
    (d.setWidth 32 = (0x32544645 : BitVec 32) → d.extractLsb' 48 16 = 0 →
      (16 < (d.extractLsb' 32 8).toNat ∨ 4 < (d.extractLsb' 40 8).toNat → headerFailure (beatBytes d) = some .count) ∧
      ((d.extractLsb' 32 8).toNat ≤ 16 → (d.extractLsb' 40 8).toNat ≤ 4 → headerFailure (beatBytes d) = none)) := by
  obtain ⟨hsignature, hzero, hwindows, hgroups⟩ := header_fields d
  have hs : imageValue (beatBytes d) 0 4 ≠ Config.bootSignature ↔ d.setWidth 32 ≠ (0x32544645 : BitVec 32) := by
    rw [hsignature, ne_eq, ne_eq, not_iff_not]
    exact ⟨fun h => BitVec.eq_of_toNat_eq h, fun h => by rw [h]; rfl⟩
  have hz : imageValue (beatBytes d) 6 2 ≠ 0 ↔ d.extractLsb' 48 16 ≠ 0 := by
    rw [hzero, ne_eq, ne_eq, not_iff_not]
    exact ⟨fun h => BitVec.eq_of_toNat_eq h, fun h => by rw [h]; rfl⟩
  rw [headerFailure, hwindows, hgroups]
  refine ⟨fun h => ?_, fun hd hd' => ⟨fun h => ?_, fun hw hg => ?_⟩⟩
  · by_cases hd : d.setWidth 32 = (0x32544645 : BitVec 32)
    · rw [if_neg (mt hs.1 (not_not.2 hd)), if_pos (hz.2 (h.resolve_left (not_not.2 hd)))]
    · rw [if_pos (hs.2 hd)]
  · rw [if_neg (mt hs.1 (not_not.2 hd)), if_neg (mt hz.1 (not_not.2 hd'))]
    by_cases hw : 16 < (d.extractLsb' 32 8).toNat
    · rw [if_pos hw]
    · rw [if_neg hw, if_pos (h.resolve_left hw)]
  · rw [if_neg (mt hs.1 (not_not.2 hd)), if_neg (mt hz.1 (not_not.2 hd')), if_neg (by omega), if_neg (by omega)]

/-! ## The answers to the controller's reads (R174, R175, R178) -/

theorem State.bootResult_of_pointer {s : State} (h : s.startUp.state = .pointer) (data : List Beat) :
    s.bootResult true data = s.bootPointer data := by
  simp only [State.bootResult, h, if_true]

theorem State.bootResult_of_image {s : State} (h : s.startUp.state = .image) (data : List Beat) :
    s.bootResult true data = s.bootImage data := by
  simp only [State.bootResult, h, if_true]

/-- R175: the answer to the header read, by its test. -/
theorem State.bootImage_header {s : State} (h : s.startUp.bytes = []) (d : Beat) :
    s.bootImage [d] = match headerFailure (beatBytes d) with
      | some cause => s.bootFail cause
      | none => s.bootNextRead (beatBytes d) := by
  cases hf : headerFailure (beatBytes d) <;>
    simp only [State.bootImage, h, List.isEmpty_nil, if_true, List.nil_append, List.flatMap_cons, List.flatMap_nil,
      List.append_nil, hf]

/-- R175: the answer to a body read. -/
theorem State.bootImage_body {s : State} (h : s.startUp.bytes ≠ []) (data : List Beat) :
    s.bootImage data =
      if (s.startUp.bytes ++ data.flatMap beatBytes).length < imageLength (s.startUp.bytes ++ data.flatMap beatBytes) then
        s.bootNextRead (s.startUp.bytes ++ data.flatMap beatBytes)
      else s.bootApply (s.startUp.bytes ++ data.flatMap beatBytes) := by
  have hempty : s.startUp.bytes.isEmpty = false := by
    cases hb : s.startUp.bytes
    · exact absurd hb h
    · rfl
  simp only [State.bootImage, hempty, Bool.false_eq_true, if_false]

/-! ## A test with an empty transaction table -/

theorem State.slotsByAge_of_empty {s : State} (h : ∀ i : Fin 8, s.port.slots[i] = none) : s.slotsByAge = [] :=
  List.eq_nil_iff_forall_not_mem.2 fun i hi => by
    have := (s.mem_slotsByAge i).1 hi
    rw [h i] at this
    cases this

theorem vector_eq_of_getElem {α : Type} {n : Nat} {v w : Vector α n} (h : ∀ i : Fin n, v[i] = w[i]) : v = w :=
  Vector.ext fun i hi => h ⟨i, hi⟩

/-- With no transfer in the table a test changes nothing. -/
theorem State.retest_of_empty {s : State} (h : ∀ i : Fin 8, s.port.slots[i] = none) : s.retest = s := by
  have hentries : s.makeEntries = s := by
    rw [State.makeEntries_eq, State.slotsByAge_of_empty h]
    rfl
  have hslots : mapTable (fun _ e => e.map s.testedTransfer) s.port.slots = s.port.slots := by
    refine vector_eq_of_getElem fun i => ?_
    rw [mapTable_getElem_fin, h i]
    rfl
  rw [State.retest, hentries]
  show s.withPort { s.port with slots := mapTable (fun _ e => e.map s.testedTransfer) s.port.slots } = s
  rw [hslots]
  rfl

/-- With no transfer in the table there is nothing to settle. -/
theorem State.settleWrites_of_empty {s : State} (h : ∀ i : Fin 8, s.port.slots[i] = none) (p : Address → Bool) (st : Status) :
    s.settleWrites p st = s := by
  refine foldl_keeps (fun a => a = s) _ (fun a i ha => ?_) _ s rfl
  subst ha
  exact State.settleSlot_of_not_pending (fun t ht => by rw [h i] at ht; cases ht) st

/-- R177: ENABLE with an empty transaction table and nothing offered. -/
theorem State.enableTaken_of_empty {s : State} (h : ∀ i : Fin 8, s.port.slots[i] = none) (hoffered : s.port.offered = [])
    (w : WindowId) :
    s.enableTaken w = (s.setWindow w s.windows[w].enabledBy).unblockGroup s.windows[w].group := by
  have hsettled : s.changeSettled w s.windows[w].enabledBy s.windows[w].inRanges .retry =
      s.setWindow w s.windows[w].enabledBy := State.settleWrites_of_empty (s := s.setWindow w s.windows[w].enabledBy) h _ _
  have hport : ((s.setWindow w s.windows[w].enabledBy).unblockGroup s.windows[w].group).port = s.port := by
    simp only [State.unblockGroup_frame, State.setWindow_port]
  rw [State.enableTaken_eq, hsettled, State.retest_of_empty (by rw [hport]; exact h),
    State.acceptStanding_of_none _ (by rw [hport]; exact hoffered)]

/-- R177: with an empty transaction table and nothing offered, ENABLE leaves the port. -/
theorem State.enableAtBootLoad_port {s : State} (h : ∀ i : Fin 8, s.port.slots[i] = none) (hoffered : s.port.offered = [])
    (w : WindowId) : (s.enableAtBootLoad w).port = s.port := by
  unfold State.enableAtBootLoad
  split
  · by_cases htest : s.enableTest w = .accepted
    · rw [State.enableWindow_of_accepted htest, State.enableTaken_of_empty h hoffered]
      simp only [State.unblockGroup_frame, State.setWindow_port]
    · rw [State.enableWindow_of_refused htest]
  · rfl

theorem State.applyImage_port (s : State) (bytes : List Byte) : (s.applyImage bytes).port = s.port := by
  refine foldl_keeps (fun a : State => a.port = s.port) _ (fun a i ha => ?_) _ _
    (foldl_keeps (fun a : State => a.port = s.port) _ (fun a i ha => ?_) _ s rfl)
  · unfold State.applyWindowRecord
    split <;> exact ha
  · unfold State.applyGroupRecord
    split <;> exact ha

theorem State.applyImage_startUp (s : State) (bytes : List Byte) : (s.applyImage bytes).startUp = s.startUp := by
  refine foldl_keeps (fun a : State => a.startUp = s.startUp) _ (fun a i ha => ?_) _ _
    (foldl_keeps (fun a : State => a.startUp = s.startUp) _ (fun a i ha => ?_) _ s rfl)
  · unfold State.applyWindowRecord
    split <;> exact ha
  · unfold State.applyGroupRecord
    split <;> exact ha

/-- R174 to R178: with an empty transaction table and nothing offered, an answer to the controller leaves the port. -/
theorem State.bootResult_port {s : State} (h : ∀ i : Fin 8, s.port.slots[i] = none) (hoffered : s.port.offered = [])
    (ok : Bool) (data : List Beat) : (s.bootResult ok data).port = s.port := by
  have hfail (cause : BootCause) : (s.bootFail cause).port = s.port := rfl
  have hend (a : State) (r : EventRecord) : (a.endBoot r).port = a.port := rfl
  have happly (bytes : List Byte) : (s.bootApply bytes).port = s.port := by
    unfold State.bootApply
    split
    · exact hfail _
    · rw [hend]
      generalize places 16 = l
      refine foldl_keeps (fun a : State => a.port = s.port) State.enableAtBootLoad (fun a w ha => ?_) l _
        (s.applyImage_port bytes)
      exact (State.enableAtBootLoad_port (by rw [ha]; exact h) (by rw [ha]; exact hoffered) w).trans ha
  unfold State.bootResult
  split
  · split
    · unfold State.bootPointer
      dsimp only
      split
      · exact hfail _
      · rfl
    · unfold State.bootImage
      dsimp only
      split
      · split
        · exact hfail _
        · rfl
      · split
        · rfl
        · exact happly _
    · rfl
    · rfl
    · rfl
  · exact hfail _

/-- With an empty transaction table and nothing offered, an answer to the controller is the whole event. -/
theorem State.bootResult_settled {b : State} (h : ∀ i : Fin 8, b.port.slots[i] = none) (hoffered : b.port.offered = [])
    (ok : Bool) (data : List Beat) : (b.bootResult ok data).retest.acceptStanding = b.bootResult ok data := by
  have hport := State.bootResult_port h hoffered ok data
  rw [State.retest_of_empty (by rw [hport]; exact h), State.acceptStanding_of_none _ (by rw [hport]; exact hoffered)]

/-- Settles O59: the answers to the pointer read, the header read and the body reads. -/
theorem bootReadsFetchPointerHeaderAndBody : Obligations.BootReadsFetchPointerHeaderAndBody := by
  unfold Obligations.BootReadsFetchPointerHeaderAndBody
  intro ended
  refine ⟨fun s k q n l data hslot hread hlength hoffered hempty => ?_, beatBytes_eq, imageLength_eq, fun s d => ?_,
    fun s data himage hbytes => ?_⟩
  · have hq : s.quiet.mem.slots[k] = .pending q .startUp n l := hslot
    have hopen : beatsOpen q data = false := by simp only [beatsOpen, hread, hlength, lt_irrefl, decide_false]
    refine ⟨?_, ?_⟩
    · rw [exec_memResponse, execMemResponse]
      simp only [hq, State.respondPending, hopen, responseBeats_exact hread hlength]
      exact congrArg _ (State.bootResult_settled (b := s.quiet.setMemSlot k .free) hempty hoffered true data)
    · rw [exec_memResponse, execMemResponse]
      simp only [hq, State.respondPending]
      exact congrArg _ (State.bootResult_settled (b := s.quiet.setMemSlot k .free) hempty hoffered false [])
  · intro pointer start length
    refine ⟨fun hstate => ⟨fun h => ?_, fun h => ?_⟩, fun hstate hbytes => ?_⟩
    · rw [State.bootResult_of_pointer hstate]
      exact if_pos h
    · rw [State.bootResult_of_pointer hstate]
      exact if_neg (not_not.2 h)
    · obtain ⟨hsignature, hgood⟩ := headerFailure_beatBytes d
      have hresult : s.bootResult true [d] = _ :=
        (State.bootResult_of_image hstate [d]).trans (State.bootImage_header hbytes d)
      refine ⟨fun h => ?_, fun hd hz => ⟨fun h => ?_, fun hw hg => ?_⟩⟩
      · rw [hresult, hsignature h]
        rfl
      · rw [hresult, (hgood hd hz).1 h]
        rfl
      · have hlength : imageLength (beatBytes d) = length := by
          obtain ⟨-, -, hwindows, hgroups⟩ := header_fields d
          rw [imageLength, hwindows, hgroups]
        have height : (beatBytes d).length = 8 := by rw [beatBytes_eq]; rfl
        rw [hresult, (hgood hd hz).2 hw hg]
        simp only [State.bootNextRead, bodyBeats, height, hlength]
        rfl
  · intro bytes start
    have hresult : s.bootResult true data = _ :=
      (State.bootResult_of_image himage data).trans (State.bootImage_body hbytes data)
    refine ⟨fun h => ?_, fun h => ?_⟩
    · rw [hresult, if_pos h]
      rfl
    · rw [hresult, if_neg (by show ¬ bytes.length < imageLength bytes; omega)]

/-! ## The tests of an image (R176) -/

/-- R176: a word of the image. -/
theorem wordSum_cons (a b c d : Byte) (rest : List Byte) :
    wordSum (a :: b :: c :: d :: rest) = (d ++ c ++ b ++ a : BitVec 32) + wordSum rest := by
  have hword : valueOf [a, b, c, d] = (d ++ c ++ b ++ a : BitVec 32).toNat := by
    simp only [valueOf, toNat_append_byte]
    omega
  rw [wordSum, hword]
  simp

theorem recordNumber_any {n limit start : Nat} {bytes : List Byte} {record : Nat → List Byte}
    (hrecord : ∀ i, record i = (bytes.drop (start + 16 * i)).take 16) :
    ((List.range n).any fun i => decide (limit < imageValue (record i) 0 1)) = true ↔
      ∃ i, i < n ∧ limit < (bytes.getD (start + 16 * i) 0).toNat := by
  simp only [List.any_eq_true, List.mem_range, decide_eq_true_eq, hrecord, imageValue_record bytes _ (show 0 + 1 ≤ 16 by omega),
    imageValue_one, Nat.add_zero]

/-- R176: the tests of a whole image. -/
theorem imageFailure_eq (bytes : List Byte) : imageFailure bytes =
    if wordSum (bytes.take (imageLength bytes)) ≠ 0 then some .checksum
    else if (∃ i, i < (bytes.getD 5 0).toNat ∧ 3 < (bytes.getD (8 + 16 * i) 0).toNat) ∨
      (∃ i, i < (bytes.getD 4 0).toNat ∧ 15 < (bytes.getD (8 + 16 * (bytes.getD 5 0).toNat + 16 * i) 0).toNat) then
      some .count
    else none := by
  have hgroups := recordNumber_any (n := imageGroups bytes) (limit := 3) (start := 8) (bytes := bytes)
    (record := groupRecord bytes) fun i => rfl
  have hwindows := recordNumber_any (n := imageWindows bytes) (limit := 15) (start := 8 + 16 * imageGroups bytes)
    (bytes := bytes) (record := windowRecord bytes) fun i => rfl
  rw [imageGroups_eq, imageWindows_eq] at hwindows
  rw [imageGroups_eq] at hgroups
  rw [imageFailure, imageGroups_eq, imageWindows_eq]
  simp only [hgroups, hwindows]
  by_cases hg : ∃ i, i < (bytes.getD 5 0).toNat ∧ 3 < (bytes.getD (8 + 16 * i) 0).toNat
  · simp only [hg, true_or, if_true]
  · simp only [hg, false_or, if_false]

/-! ## The records of a good image (R176) -/

theorem decide_toNat_ne_zero (b : Byte) : decide (b.toNat ≠ 0) = decide (b ≠ 0) := by
  refine decide_eq_decide.2 (not_congr ⟨fun h => BitVec.eq_of_toNat_eq h, fun h => by rw [h]; rfl⟩)

theorem triggerOf_none {n offset : Nat} (h : 16 ≤ n ∨ 131072 ≤ offset) : triggerOf n offset = none := by
  rw [triggerOf]
  by_cases hn : n < 16
  · rw [windowOf_val (w := ⟨n, hn⟩) rfl]
    exact if_neg (by omega)
  · rw [windowOf_of_ge (by omega)]

theorem recordTrigger_eq (record : List Byte) (held : Option Trigger) : recordTrigger record held =
    if imageValue record 6 1 = 0 then none
    else (triggerOf (imageValue record 7 1) (imageValue record 8 3)).or held := by
  rw [recordTrigger]
  cases triggerOf (imageValue record 7 1) (imageValue record 8 3) <;> rfl

/-- R176, R185: a group after the record of sixteen bytes from a place of the image. -/
theorem Group.withRecord_eq (x : Group) (bytes : List Byte) (start : Nat) :
    let at_ := fun n : Nat => bytes.getD (start + n) 0
    x.withRecord ((bytes.drop start).take 16) =
      { x with
        producers := at_ 2 ++ at_ 1
        source := (sourceOf (at_ 3).toNat).getD x.source
        lag := (lagOf (at_ 4).toNat).getD x.lag
        hold := decide (at_ 5 ≠ 0)
        trigger :=
          if (at_ 6).toNat = 0 then none
          else (triggerOf (at_ 7).toNat (at_ 10 ++ at_ 9 ++ at_ 8).toNat).or x.trigger } := by
  intro at_
  have hone (n : Nat) (hn : n + 1 ≤ 16) : imageValue ((bytes.drop start).take 16) n 1 = (at_ n).toNat := by
    rw [imageValue_record _ _ hn, imageValue_one]
  have htwo : imageValue ((bytes.drop start).take 16) 1 2 = (at_ 2 ++ at_ 1).toNat := by
    rw [imageValue_record _ _ (by omega), imageValue_two]
  have hthree : imageValue ((bytes.drop start).take 16) 8 3 = (at_ 10 ++ at_ 9 ++ at_ 8).toNat := by
    rw [imageValue_record _ _ (by omega), imageValue_three]
  rw [Group.withRecord, recordTrigger_eq, htwo, hthree, hone 3 (by omega), hone 4 (by omega), hone 5 (by omega),
    hone 6 (by omega), hone 7 (by omega), ofNat_toNat_self, decide_toNat_ne_zero]

/-- R176, R185: a window after the record of sixteen bytes from a place of the image. -/
theorem Window.withRecord_eq (x : Window) (bytes : List Byte) (start : Nat) :
    let at_ := fun n : Nat => bytes.getD (start + n) 0
    x.withRecord ((bytes.drop start).take 16) =
      { x with
        base := at_ 4 ++ at_ 3 ++ at_ 2 ++ at_ 1
        twin := at_ 8 ++ at_ 7 ++ at_ 6 ++ at_ 5
        sizeCode := at_ 9
        group := (groupOf (at_ 10).toNat).getD x.group
        policy := (policyOf (at_ 11).toNat).getD x.policy
        enableAtBoot := decide (at_ 12 ≠ 0) } := by
  intro at_
  have hone (n : Nat) (hn : n + 1 ≤ 16) : imageValue ((bytes.drop start).take 16) n 1 = (at_ n).toNat := by
    rw [imageValue_record _ _ hn, imageValue_one]
  have hbase : imageValue ((bytes.drop start).take 16) 1 4 = (at_ 4 ++ at_ 3 ++ at_ 2 ++ at_ 1).toNat := by
    rw [imageValue_record _ _ (by omega), imageValue_four]
  have htwin : imageValue ((bytes.drop start).take 16) 5 4 = (at_ 8 ++ at_ 7 ++ at_ 6 ++ at_ 5).toNat := by
    rw [imageValue_record _ _ (by omega), imageValue_four]
  rw [Window.withRecord, hbase, htwin, hone 9 (by omega), hone 10 (by omega), hone 11 (by omega), hone 12 (by omega),
    ofNat_toNat_self, ofNat_toNat_self, ofNat_toNat_self, decide_toNat_ne_zero]

/-- R176: the record of a group that the image names. -/
theorem State.applyGroupRecord_of_val {s : State} {bytes : List Byte} {i : Nat} {g : GroupId}
    (h : (bytes.getD (8 + 16 * i) 0).toNat = g.val) :
    State.applyGroupRecord bytes s i = s.setGroup g (s.groups[g].withRecord ((bytes.drop (8 + 16 * i)).take 16)) := by
  have hnumber : imageValue (groupRecord bytes i) 0 1 = g.val := by
    rw [groupRecord, imageValue_record _ _ (by omega), imageValue_one]
    exact h
  rw [State.applyGroupRecord, groupOf_val hnumber]
  rfl

/-- R176: the record of a window that the image names. -/
theorem State.applyWindowRecord_of_val {s : State} {bytes : List Byte} {i : Nat} {w : WindowId}
    (h : (bytes.getD (8 + 16 * (bytes.getD 5 0).toNat + 16 * i) 0).toNat = w.val) :
    State.applyWindowRecord bytes s i = s.setWindow w
      (s.windows[w].withRecord ((bytes.drop (8 + 16 * (bytes.getD 5 0).toNat + 16 * i)).take 16)) := by
  have hnumber : imageValue (windowRecord bytes i) 0 1 = w.val := by
    rw [windowRecord, imageValue_record _ _ (by omega), imageValue_one, imageGroups_eq]
    exact h
  rw [State.applyWindowRecord, windowOf_val hnumber, windowRecord, imageGroups_eq]

/-- R177: what ENABLE does of a window of the image. -/
theorem State.enableAtBootLoad_eq (s : State) (w : WindowId) :
    (s.windows[w].enableAtBoot = false ∨ s.enableTest w ≠ .accepted → s.enableAtBootLoad w = s) ∧
    (s.windows[w].enableAtBoot = true → s.enableTest w = .accepted → s.enableAtBootLoad w = s.enableTaken w) := by
  refine ⟨fun h => ?_, fun he ht => ?_⟩
  · rw [State.enableAtBootLoad]
    split
    · rename_i he
      rw [State.enableWindow_of_refused (h.resolve_left (by rw [he]; decide))]
    · rfl
  · rw [State.enableAtBootLoad, if_pos he, State.enableWindow_of_accepted ht]

theorem State.unblockGroup_of_ne {s : State} {g : GroupId} (h : s.groups[g].state ≠ .blocked) : s.unblockGroup g = s := by
  rw [State.unblockGroup]
  cases hs : s.groups[g].state with
  | opened => rfl
  | armed n late => rfl
  | blocked => exact absurd hs h

/-- Settles O60: the tests of an image and the application of its records. -/
theorem bootImageIsTestedAndApplied : Obligations.BootImageIsTestedAndApplied := by
  unfold Obligations.BootImageIsTestedAndApplied
  refine ⟨⟨rfl, wordSum_cons⟩, fun bytes => ?_, fun s bytes => ⟨fun cause h => ?_, fun h => ?_, ?_⟩, fun s bytes i g => ?_,
    fun s bytes i w => ?_, fun s w => ⟨(s.enableAtBootLoad_eq w).1, fun he ht hoffered hempty hgroup => ?_⟩⟩
  · intro at_ groups windows sum groupWrong windowWrong
    rw [imageFailure_eq]
    refine ⟨fun h => if_pos h, fun h hwrong => ?_, fun h hg hw => ?_⟩
    · rw [if_neg (not_not.2 h)]
      exact if_pos hwrong
    · rw [if_neg (not_not.2 h)]
      exact if_neg (not_or.2 ⟨hg, hw⟩)
  · simp only [State.bootApply, h]
    rfl
  · have happly : s.bootApply bytes =
        ((places 16).foldl State.enableAtBootLoad (s.applyImage bytes)).endBoot .bootDone := by
      simp only [State.bootApply, h]
    have hstartUp : ((places 16).foldl State.enableAtBootLoad (s.applyImage bytes)).startUp = s.startUp := by
      generalize places 16 = l
      refine foldl_keeps (fun a : State => a.startUp = s.startUp) State.enableAtBootLoad (fun a w ha => ?_) l _
        (s.applyImage_startUp bytes)
      simpa only [State.enableAtBootLoad_frame] using ha
    rw [happly, State.endBoot, hstartUp]
  · rw [State.applyImage, imageWindows_eq, imageGroups_eq]
  · intro at_ h
    have hx := Group.withRecord_eq s.groups[g] bytes (8 + 16 * i)
    refine ⟨_, (State.applyGroupRecord_of_val h).trans (congrArg (s.setGroup g) hx), rfl, fun e he => ?_, fun he => ?_,
      fun hl => ?_, fun hl => ?_, fun h1 h2 => ?_, fun h6 => ?_, fun w n h6 hw hn hle => ?_, fun h6 h7 => ?_⟩
    · exact congrArg (fun o => o.getD s.groups[g].source) (sourceOf_val he)
    · exact congrArg (fun o => o.getD s.groups[g].source) (sourceOf_of_ge he)
    · exact congrArg (fun o => o.getD s.groups[g].lag) ((lagOf_byte _).1 hl)
    · exact congrArg (fun o => o.getD s.groups[g].lag) ((lagOf_byte _).2.1 hl)
    · exact congrArg (fun o => o.getD s.groups[g].lag) ((lagOf_byte _).2.2 h1 h2)
    · exact if_pos (congrArg BitVec.toNat h6)
    · have hne : ¬ (at_ 6).toNat = 0 := fun h => h6 (BitVec.eq_of_toNat_eq h)
      refine (if_neg hne).trans ?_
      rw [triggerOf_eq w hw, if_pos (hn ▸ hle), ← hn]
      rfl
    · have hne : ¬ (at_ 6).toNat = 0 := fun h => h6 (BitVec.eq_of_toNat_eq h)
      refine (if_neg hne).trans ?_
      rw [triggerOf_none h7]
      rfl
  · intro at_ h
    have hx := Window.withRecord_eq s.windows[w] bytes (8 + 16 * (bytes.getD 5 0).toNat + 16 * i)
    refine ⟨_, (State.applyWindowRecord_of_val h).trans (congrArg (s.setWindow w) hx), rfl, fun g hg => ?_, fun hg => ?_,
      fun p hp => ?_, fun hp => ?_⟩
    · exact congrArg (fun o => o.getD s.windows[w].group) (groupOf_val hg)
    · exact congrArg (fun o => o.getD s.windows[w].group) (groupOf_of_ge hg)
    · have hp' : policyOf (at_ 11).toNat = some p := by rw [hp, policyOf_byte]
      exact congrArg (fun o => o.getD s.windows[w].policy) hp'
    · exact congrArg (fun o => o.getD s.windows[w].policy) (policyOf_of_ge hp)
  · rw [(s.enableAtBootLoad_eq w).2 he ht, State.enableTaken_of_empty hempty hoffered,
      State.unblockGroup_of_ne (s := s.setWindow w s.windows[w].enabledBy) hgroup]
    rfl

end Sys2Proof.Machine
end

section
/-! What every step keeps of the promises of `State.Inv` and of the exclusion of copies and writes (R49): the promises
that an operation within an event keeps, and how the operations that begin no transfer, no issue and no copy keep them. -/

namespace Sys2Proof.Machine

open Sys2Proof

/-! ## Transfers and copies that go on -/

/-- A transfer of the table after an operation that begins and issues none: what routing and issue gave it is as it was. -/
structure Transfer.Becomes (v u : Transfer) : Prop where
  request : u.request = v.request
  window : u.window = v.window
  route : u.route = v.route
  readAddress : u.readAddress = v.readAddress
  countedBank : u.countedBank = v.countedBank
  issued : u.phase = .issued ↔ v.phase = .issued
  lines : u.issuedLines = v.issuedLines

theorem Transfer.Becomes.refl (v : Transfer) : v.Becomes v := ⟨rfl, rfl, rfl, rfl, rfl, Iff.rfl, rfl⟩

theorem Transfer.Becomes.trans {x y z : Transfer} (h : x.Becomes y) (k : y.Becomes z) : x.Becomes z :=
  ⟨k.request.trans h.request, k.window.trans h.window, k.route.trans h.route, k.readAddress.trans h.readAddress,
    k.countedBank.trans h.countedBank, k.issued.trans h.issued, k.lines.trans h.lines⟩

/-- A copy in flight after an operation that takes none: its line is as it was, and it is not owned anew. -/
structure CopyRecord.Becomes (j k : CopyRecord) : Prop where
  window : k.window = j.window
  line : k.line = j.line
  source : k.source = j.source
  destination : k.destination = j.destination
  owned : k.owned = true → j.owned = true

theorem CopyRecord.Becomes.refl (j : CopyRecord) : j.Becomes j := ⟨rfl, rfl, rfl, rfl, id⟩

theorem CopyRecord.Becomes.trans {x y z : CopyRecord} (h : x.Becomes y) (k : y.Becomes z) : x.Becomes z :=
  ⟨k.window.trans h.window, k.line.trans h.line, k.source.trans h.source, k.destination.trans h.destination,
    h.owned ∘ k.owned⟩

/-- What an operation that begins no transfer, issues none, takes no copy, starts no boot load, closes no port and opens no
frame leaves of the table, the copiers and the conditions on them. -/
structure State.Follows (s t : State) : Prop where
  slots : ∀ i : Fin 8, ∀ u, t.port.slots[i] = some u → ∃ v, s.port.slots[i] = some v ∧ v.Becomes u
  copiers : ∀ c : Fin 2, ∀ k, t.carry.copiers[c] = .busy k → ∃ j, s.carry.copiers[c] = .busy j ∧ j.Becomes k
  boot : t.bootInProgress = true → s.bootInProgress = true
  pwrup : t.pins.pwrupLow = true → s.pins.pwrupLow = true
  held : t.resetHeld = true → s.resetHeld = true
  frame : t.resetHeld = true → s.link.frame = .idle → t.link.frame = .idle

theorem State.Follows.trans {s t u : State} (h : s.Follows t) (k : t.Follows u) : s.Follows u where
  slots i x hx := by
    obtain ⟨y, hy, hyx⟩ := k.slots i x hx
    obtain ⟨z, hz, hzy⟩ := h.slots i y hy
    exact ⟨z, hz, hzy.trans hyx⟩
  copiers c x hx := by
    obtain ⟨y, hy, hyx⟩ := k.copiers c x hx
    obtain ⟨z, hz, hzy⟩ := h.copiers c y hy
    exact ⟨z, hz, hzy.trans hyx⟩
  boot := h.boot ∘ k.boot
  pwrup := h.pwrup ∘ k.pwrup
  held := h.held ∘ k.held
  frame hh := k.frame hh ∘ h.frame (k.held hh)

/-- An operation that leaves the blocks which `State.Follows` reads. -/
theorem State.Follows.of_blocks {s t : State} (hslots : t.port.slots = s.port.slots)
    (hcopiers : t.carry.copiers = s.carry.copiers) (hstartUp : t.startUp = s.startUp) (hpins : t.pins = s.pins)
    (hlink : t.link = s.link) : s.Follows t where
  slots i u hu := ⟨u, hslots ▸ hu, .refl u⟩
  copiers c k hk := ⟨k, hcopiers ▸ hk, .refl k⟩
  boot h := by rwa [State.bootInProgress, hstartUp] at h
  pwrup h := hpins ▸ h
  held h := by rwa [State.resetHeld, hpins] at h
  frame _ h := hlink ▸ h

theorem State.Follows.refl (s : State) : s.Follows s := .of_blocks rfl rfl rfl rfl rfl

theorem State.Follows.empty {s t : State} (h : s.Follows t) (hs : ∀ i : Fin 8, s.port.slots[i] = none) (i : Fin 8) :
    t.port.slots[i] = none := by
  cases ht : t.port.slots[i] with
  | none => rfl
  | some u =>
    obtain ⟨v, hv, -⟩ := h.slots i u ht
    rw [hs i] at hv
    cases hv

theorem State.Follows.idle {s t : State} (h : s.Follows t) (hs : ∀ c : Fin 2, s.carry.copiers[c] = .idle) (c : Fin 2) :
    t.carry.copiers[c] = .idle := by
  cases ht : t.carry.copiers[c] with
  | idle => rfl
  | busy k =>
    obtain ⟨j, hj, -⟩ := h.copiers c k ht
    rw [hs c] at hj
    cases hj

/-! ## Copies and writes apart (R49) -/

theorem State.writeInFlightOn_eq_false {s : State} {a : Address} :
    s.writeInFlightOn a = false ↔ ∀ i : Fin 8, ∀ t, s.port.slots[i] = some t → t.request.kind.isWrite = true →
      t.phase = .issued → a ∉ t.issuedLines := by
  simp only [State.writeInFlightOn, List.any_eq_false, mem_places, true_implies]
  refine forall_congr' fun i => ?_
  cases s.port.slots[i] with
  | none => simp
  | some t => simp

/-- R49 in the terms of the tables: no copy in flight meets a line of an issued write. -/
theorem State.copiesExcludeWrites_iff (s : State) : s.copiesExcludeWrites ↔
    ∀ c : Fin 2, ∀ k, s.carry.copiers[c] = .busy k → ∀ i : Fin 8, ∀ t, s.port.slots[i] = some t →
      t.request.kind.isWrite = true → t.phase = .issued → k.source ∉ t.issuedLines ∧ k.destination ∉ t.issuedLines := by
  refine forall_congr' fun c => forall_congr' fun k => ?_
  rw [Copier.mem_record?]
  simp only [State.writeInFlightOn_eq_false]
  exact ⟨fun h hk i t ht hw hp => ⟨(h hk).1 i t ht hw hp, (h hk).2 i t ht hw hp⟩,
    fun h hk => ⟨fun i t ht hw hp => (h hk i t ht hw hp).1, fun i t ht hw hp => (h hk i t ht hw hp).2⟩⟩

theorem State.Follows.copiesExcludeWrites {s t : State} (h : s.Follows t) (hs : s.copiesExcludeWrites) :
    t.copiesExcludeWrites := by
  rw [State.copiesExcludeWrites_iff] at hs ⊢
  intro c k hk i u hu hwrite hissued
  obtain ⟨j, hj, hjk⟩ := h.copiers c k hk
  obtain ⟨v, hv, hvu⟩ := h.slots i u hu
  rw [hjk.source, hjk.destination, hvu.lines]
  exact hs c j hj i v hv (hvu.request ▸ hwrite) (hvu.issued.1 hissued)

theorem State.Follows.copiesApart {s t : State} (h : s.Follows t) (hs : s.copiesApart) : t.copiesApart := by
  intro c d hcd k hk l hl
  rw [Copier.mem_record?] at hk hl
  obtain ⟨k', hk', hkk⟩ := h.copiers c k hk
  obtain ⟨l', hl', hll⟩ := h.copiers d l hl
  rw [hkk.source, hkk.destination, hll.source, hll.destination]
  exact hs c d hcd k' (Copier.mem_record?.2 hk') l' (Copier.mem_record?.2 hl')

/-! ## The promises within an event -/

/-- A part whose windows are off, whose groups are OPEN and whose table and copiers are empty (R172, R173). -/
structure State.Asleep (s : State) : Prop where
  windows : ∀ w : WindowId, s.windows[w].state = .disabled
  groups : ∀ g : GroupId, s.groups[g].state = .opened
  slots : ∀ i : Fin 8, s.port.slots[i] = none
  copiers : ∀ c : Fin 2, s.carry.copiers[c] = .idle

/-- R22, R33, R98: what holds of a window while writes and copies go on in it: the writes not yet issued are routed in its
present state, and its owned copies are of lines of its carry set. -/
structure State.WorkFits (s : State) (w : WindowId) : Prop where
  writes : ∀ i : Fin 8, ∀ t, s.port.slots[i] = some t → t.unissued = true → t.request.kind.isWrite = true →
    t.window = some w → s.pendingWriteRouted t
  copies : ∀ c : Fin 2, ∀ k, s.carry.copiers[c] = .busy k → k.owned = true → k.window = w →
    s.windows[w].state.copies = true ∧ k.line ∈ s.windows[w].carry ∧
      k.source = s.windows[w].lineAddress s.windows[w].live k.line ∧
      k.destination = s.windows[w].lineAddress s.windows[w].shadow k.line

/-- The promises of `State.Inv` that hold within an event too, before the tests and the acceptances that end it; and, under
a condition, the exclusion of copies and writes. -/
structure State.Sound (q : Prop) (s : State) : Prop where
  windows : s.everyWindow Window.consistent
  groups : s.blockedMatchesFaults
  pendingWrites : s.pendingWritesRouted
  pendingReads : s.pendingReadsAddressed
  copies : s.ownedCopiesCarried
  copiers : s.copiesApart
  boot : s.bootQuiet
  reset : s.resetQuiet
  exclude : q → s.copiesExcludeWrites

/-- `State.Inv` with, under a condition, the exclusion of copies and writes. -/
structure State.Safe (q : Prop) (s : State) : Prop where
  inv : s.Inv
  exclude : q → s.copiesExcludeWrites

theorem State.Safe.sound {q : Prop} {s : State} (h : s.Safe q) : s.Sound q :=
  ⟨h.inv.windows, h.inv.groups, h.inv.pendingWrites, h.inv.pendingReads, h.inv.copies, h.inv.copiers, h.inv.boot,
    h.inv.reset, h.exclude⟩

theorem State.Sound.safe {q : Prop} {s : State} (h : s.Sound q) (htransfers : s.transfersTested)
    (hoffered : s.offeredOnlyWhenClosed) : s.Safe q :=
  ⟨⟨h.windows, h.groups, htransfers, h.pendingWrites, h.pendingReads, hoffered, h.copies, h.copiers, h.boot, h.reset⟩,
    h.exclude⟩

theorem State.Sound.workFits {q : Prop} {s : State} (h : s.Sound q) (w : WindowId) : s.WorkFits w where
  writes i t ht hu hw _ := h.pendingWrites i t ht hu hw
  copies c k hk howned hw := hw ▸ h.copies c k (Copier.mem_record?.2 hk) howned

theorem State.Sound.asleep {q : Prop} {s : State} (h : s.Sound q)
    (hs : s.bootInProgress = true ∨ s.pins.pwrupLow = true) : s.Asleep := by
  obtain ⟨hw, hg, hi, hc⟩ := h.boot.2 hs
  exact ⟨hw, hg, hi, hc⟩

/-! ## Windows up to their live-read counts -/

theorem Window.withCounts_self (x : Window) : ∃ m n, x = x.withCounts m n := ⟨x.liveReads0, x.liveReads1, rfl⟩

/-- R58: the promise about groups, where no group enters or leaves BLOCKED and no window enters or leaves FAULTED, and only a
window that is not FAULTED changes its group. -/
theorem State.blockedMatchesFaults_congr {s t : State} (h : s.blockedMatchesFaults)
    (hgroups : ∀ g : GroupId, t.groups[g].state = .blocked ↔ s.groups[g].state = .blocked)
    (hwindows : ∀ w : WindowId, (t.windows[w].state = .faulted ↔ s.windows[w].state = .faulted) ∧
      (s.windows[w].state = .faulted → t.windows[w].group = s.windows[w].group)) : t.blockedMatchesFaults := by
  intro g
  rw [hgroups g, h g, State.memberFaulted_iff, State.memberFaulted_iff]
  refine exists_congr fun w => ?_
  obtain ⟨hstate, hgroup⟩ := hwindows w
  rw [hstate]
  exact and_congr_left fun hf => by rw [hgroup hf]

/-- The promises are kept where the work goes on and each window is as before but for its counts, or is consistent and fits
its work. -/
theorem State.Sound.follow {q : Prop} {s t : State} (h : s.Sound q) (hf : s.Follows t)
    (hwindows : ∀ w : WindowId, (∃ m n, t.windows[w] = s.windows[w].withCounts m n) ∨
      (t.windows[w].consistent ∧ t.WorkFits w))
    (hgroups : t.blockedMatchesFaults)
    (hasleep : s.bootInProgress = true ∨ s.pins.pwrupLow = true → s.Asleep →
      (∀ w : WindowId, t.windows[w].state = .disabled) ∧ ∀ g : GroupId, t.groups[g].state = .opened) : t.Sound q where
  windows w := by
    obtain ⟨m, n, hw⟩ | ⟨hw, -⟩ := hwindows w
    · rw [hw]; exact h.windows w
    · exact hw
  groups := hgroups
  pendingWrites i u hu hunissued hwrite := by
    obtain ⟨v, hv, hvu⟩ := hf.slots i u hu
    have hpending := h.pendingWrites i v hv
      (by simp only [Transfer.unissued, decide_eq_true_iff, ne_eq] at hunissued ⊢; rwa [← hvu.issued])
      (hvu.request ▸ hwrite)
    obtain ⟨hread, hcounted, hnone, hwindow⟩ := hpending
    cases hw : u.window with
    | none =>
      refine ⟨hvu.readAddress.trans hread, hvu.countedBank.trans hcounted, fun _ => ?_, fun w hw' => ?_⟩
      · rw [hvu.route]; exact hnone (hvu.window ▸ hw)
      · rw [hw] at hw'; cases hw'
    | some w =>
      obtain ⟨m, n, hsame⟩ | ⟨-, hfit⟩ := hwindows w
      · refine ⟨hvu.readAddress.trans hread, hvu.countedBank.trans hcounted, fun hw' => ?_, fun w' hw' => ?_⟩
        · rw [hw] at hw'; cases hw'
        · rw [hw] at hw'
          cases hw'
          rw [hsame, hvu.request, hvu.route]
          exact hwindow w (hvu.window ▸ hw)
      · exact hfit.writes i u hu hunissued hwrite hw
  pendingReads i u hu hunissued hread := by
    obtain ⟨v, hv, hvu⟩ := hf.slots i u hu
    rw [hvu.readAddress]
    exact h.pendingReads i v hv
      (by simp only [Transfer.unissued, decide_eq_true_iff, ne_eq] at hunissued ⊢; rwa [← hvu.issued])
      (hvu.request ▸ hread)
  copies c k hk howned := by
    rw [Copier.mem_record?] at hk
    obtain ⟨j, hj, hjk⟩ := hf.copiers c k hk
    obtain ⟨m, n, hsame⟩ | ⟨-, hfit⟩ := hwindows k.window
    · rw [hsame, hjk.window, hjk.line, hjk.source, hjk.destination]
      exact h.copies c j (Copier.mem_record?.2 hj) (hjk.owned howned)
    · exact hfit.copies c k hk howned rfl
  copiers := hf.copiesApart h.copiers
  boot := by
    refine ⟨fun hp => ?_, fun hb => ?_⟩
    · have hs := h.boot.1 (hf.pwrup hp)
      cases ht : t.bootInProgress with
      | false => rfl
      | true => rw [hf.boot ht] at hs; exact absurd hs (by decide)
    · have hs := hb.imp hf.boot hf.pwrup
      have hsleep := h.asleep hs
      obtain ⟨hw, hg⟩ := hasleep hs hsleep
      exact ⟨hw, hg, hf.empty hsleep.slots, hf.idle hsleep.copiers⟩
  reset hheld := by
    obtain ⟨hslots, hframe⟩ := h.reset (hf.held hheld)
    exact ⟨hf.empty hslots, hf.frame hheld hframe⟩
  exclude hq := hf.copiesExcludeWrites (h.exclude hq)

/-- The promises are kept where the work goes on, no window changes but in its counts and no group enters or leaves BLOCKED. -/
theorem State.Sound.follow_counts {q : Prop} {s t : State} (h : s.Sound q) (hf : s.Follows t)
    (hwindows : ∀ w : WindowId, ∃ m n, t.windows[w] = s.windows[w].withCounts m n)
    (hgroups : ∀ g : GroupId, t.groups[g].state = .blocked ↔ s.groups[g].state = .blocked)
    (hasleep : s.bootInProgress = true ∨ s.pins.pwrupLow = true → s.Asleep → ∀ g : GroupId, t.groups[g].state = .opened) :
    t.Sound q := by
  have hstate (w : WindowId) : t.windows[w].state = s.windows[w].state ∧ t.windows[w].group = s.windows[w].group := by
    obtain ⟨m, n, hw⟩ := hwindows w
    rw [hw]
    exact ⟨rfl, rfl⟩
  refine h.follow hf (fun w => .inl (hwindows w))
    (State.blockedMatchesFaults_congr h.groups hgroups fun w => ⟨by rw [(hstate w).1], fun _ => (hstate w).2⟩)
    fun hs hsleep => ⟨fun w => (hstate w).1.trans (hsleep.windows w), hasleep hs hsleep⟩

/-- The promises are kept where the work goes on and neither windows nor groups change. -/
theorem State.Sound.follow_same {q : Prop} {s t : State} (h : s.Sound q) (hf : s.Follows t)
    (hwindows : t.windows = s.windows) (hgroups : t.groups = s.groups) : t.Sound q :=
  h.follow_counts hf (fun w => by rw [hwindows]; exact s.windows[w].withCounts_self) (fun g => hgroups ▸ Iff.rfl)
    fun _ hsleep g => hgroups ▸ hsleep.groups g

/-! ## The end of an event that tests nothing -/

theorem State.offeredOnlyWhenClosed_congr {s t : State} (h : s.offeredOnlyWhenClosed)
    (hheld : s.resetHeld = true → t.resetHeld = true) (hoffered : t.port.offered = s.port.offered)
    (hslots : ∀ i : Fin 8, s.port.slots[i] ≠ none → t.port.slots[i] ≠ none) : t.offeredOnlyWhenClosed := by
  obtain h | h | h := h
  · exact .inl (hheld h)
  · exact .inr (.inl (hoffered.trans h))
  · exact .inr (.inr fun i => hslots i (h i))

end Sys2Proof.Machine
end

section
/-! What answers, the test after an event and acceptance keep of the promises of `State.Inv` (R97 to R107). -/

namespace Sys2Proof.Machine

open Sys2Proof

/-! ## Answers -/

theorem State.Follows.of_slots {s t : State}
    (hslots : ∀ i : Fin 8, ∀ u, t.port.slots[i] = some u → ∃ v, s.port.slots[i] = some v ∧ v.Becomes u)
    (hcopiers : t.carry.copiers = s.carry.copiers) (hstartUp : t.startUp = s.startUp) (hpins : t.pins = s.pins)
    (hlink : t.link = s.link) : s.Follows t where
  slots := hslots
  copiers c k hk := ⟨k, hcopiers ▸ hk, .refl k⟩
  boot h := by rwa [State.bootInProgress, hstartUp] at h
  pwrup h := hpins ▸ h
  held h := by rwa [State.resetHeld, hpins] at h
  frame _ h := hlink ▸ h

theorem State.answer_follows (s : State) (i : Fin 8) (st : Status) (data : List Beat) :
    s.Follows (s.answer i st data) := by
  refine .of_slots (fun j u hu => ?_) (by simp) (by simp) (by simp) (by simp)
  rw [State.answer_slot] at hu
  split at hu
  · cases hu
  · exact ⟨u, hu, .refl u⟩

/-- R60: an arming request lets no group enter or leave BLOCKED. -/
theorem State.arm_blocked (s : State) (g : GroupId) (m : Option MasterId) (h : GroupId) :
    (s.arm g m).groups[h].state = .blocked ↔ s.groups[h].state = .blocked := by
  unfold State.arm
  split
  · rename_i hg
    simp only [State.setGroup_groups, vector_set_apply]
    split
    · subst_vars; simp [-Fin.getElem_fin, hg]
    · rfl
  · rfl
  · rfl

theorem State.answer_blocked (s : State) (i : Fin 8) (st : Status) (data : List Beat) (g : GroupId) :
    (s.answer i st data).groups[g].state = .blocked ↔ s.groups[g].state = .blocked := by
  cases ht : s.port.slots[i] with
  | none => simp only [State.answer, ht]
  | some t =>
    rw [State.answer_eq ht]
    have hgroups : ((((s.setSlot i none).respond t.request st data).uncount t).settleLock t.request st).groups =
        s.groups := by simp
    generalize (((s.setSlot i none).respond t.request st data).uncount t).settleLock t.request st = a at *
    rw [← hgroups]
    unfold State.armByAnswer
    split
    · exact a.arm_blocked _ _ g
    · rfl

theorem State.answer_of_none {s : State} {i : Fin 8} (h : s.port.slots[i] = none) (st : Status) (data : List Beat) :
    s.answer i st data = s := by
  simp only [State.answer, h]

theorem State.Sound.answer {q : Prop} {s : State} (h : s.Sound q) (i : Fin 8) (st : Status) (data : List Beat) :
    (s.answer i st data).Sound q := by
  refine h.follow_counts (s.answer_follows i st data) (s.answer_window i st data) (s.answer_blocked i st data)
    fun _ hsleep g => ?_
  rw [State.answer_of_none (hsleep.slots i)]
  exact hsleep.groups g

/-! ## The test after an event (R51, R53) -/

theorem Transfer.retestedAs.becomes {v u : Transfer} (h : v.retestedAs u) (hissued : u.phase = .issued ↔ v.phase = .issued) :
    v.Becomes u := by
  obtain ⟨hu, -⟩ := h
  rw [hu]
  exact ⟨rfl, rfl, rfl, rfl, rfl, hissued, rfl⟩

theorem State.testedTransfer_becomes (s : State) (v : Transfer) : v.Becomes (s.testedTransfer v) := by
  refine (s.testedTransfer_retestedAs v).becomes ⟨fun h => ?_, fun h => ?_⟩
  · by_contra hne
    exact s.testedTransfer_unissued v hne h
  · rw [s.testedTransfer_issued v h]; exact h

theorem State.retest_follows (s : State) : s.Follows s.retest := by
  refine .of_slots (fun i u hu => ?_) (by simp) (by simp) (by simp) (by simp)
  rw [State.retest_slots] at hu
  obtain ⟨v, hv, rfl⟩ := Option.map_eq_some_iff.1 hu
  exact ⟨v, hv, s.makeEntries.testedTransfer_becomes v⟩

theorem State.Sound.retest {q : Prop} {s : State} (h : s.Sound q) : s.retest.Sound q :=
  h.follow_same s.retest_follows (by simp) (by simp)

theorem State.retest_slot_none {s : State} {i : Fin 8} : s.retest.port.slots[i] = none ↔ s.port.slots[i] = none := by
  rw [State.retest_slots, Option.map_eq_none_iff]

/-- The end of an event that tests the transfers and frees no slot. -/
theorem State.Sound.retest_safe {q : Prop} {s : State} (h : s.Sound q) (hoffered : s.offeredOnlyWhenClosed) :
    s.retest.Safe q := by
  refine h.retest.safe s.retest_transfersTested (State.offeredOnlyWhenClosed_congr hoffered (fun hh => ?_) (by simp)
    fun i hi => mt State.retest_slot_none.1 hi)
  simpa [State.resetHeld] using hh

/-! ## What waits read (R107) -/

/-- What the waits of writes and the exception of R106 read of a window beside its bases. -/
structure Window.WaitsAlike (x y : Window) : Prop where
  live : y.live = x.live
  carry : y.carry = x.carry
  reads0 : y.liveReads0 = x.liveReads0
  reads1 : y.liveReads1 = x.liveReads1

theorem Window.WaitsAlike.refl (x : Window) : x.WaitsAlike x := ⟨rfl, rfl, rfl, rfl⟩

theorem Window.WaitsAlike.shadow {x y : Window} (h : x.WaitsAlike y) : y.shadow = x.shadow :=
  congrArg Bank.other h.live

theorem Window.WaitsAlike.liveReads {x y : Window} (h : x.WaitsAlike y) (b : Bank) : y.liveReads b = x.liveReads b := by
  cases b
  · exact h.reads0
  · exact h.reads1

/-- A state in which a transfer waits as in another: what its waits read of its window is the same, and the bases too if it
is a write not yet issued. -/
structure State.WaitsAlike (s t : State) : Prop where
  carry : t.carry = s.carry
  windows : ∀ w : WindowId, s.windows[w].WaitsAlike t.windows[w]
  bases : ∀ i : Fin 8, ∀ u w, s.port.slots[i] = some u → u.unissued = true → u.request.kind.isWrite = true →
    u.window = some w → t.windows[w].base = s.windows[w].base ∧ t.windows[w].twin = s.windows[w].twin

theorem State.WaitsAlike.of_windows {s t : State} (hcarry : t.carry = s.carry) (hwindows : t.windows = s.windows) :
    s.WaitsAlike t where
  carry := hcarry
  windows w := by rw [hwindows]; exact .refl _
  bases i u w _ _ _ _ := by rw [hwindows]; exact ⟨rfl, rfl⟩

section
variable {s t : State} (h : s.WaitsAlike t)
include h

theorem State.WaitsAlike.draining (w : WindowId) : t.draining w = s.draining w := by
  simp only [State.draining, (h.windows w).shadow, (h.windows w).liveReads]

theorem State.WaitsAlike.drainsAsRead (u : Transfer) : t.drainsAsRead u = s.drainsAsRead u := by
  cases hw : u.window with
  | none => simp only [State.drainsAsRead, hw]
  | some w =>
    cases hb : u.countedBank with
    | none => simp only [State.drainsAsRead, hw, hb]
    | some b => simp only [State.drainsAsRead, hw, hb, (h.windows w).shadow]

theorem State.WaitsAlike.writeTargets {i : Fin 8} {u : Transfer} (hu : s.port.slots[i] = some u)
    (hunissued : u.unissued = true) (hwrite : u.request.kind.isWrite = true) :
    t.writeTargets u = s.writeTargets u := by
  cases hw : u.window with
  | none => simp only [State.writeTargets, hw]
  | some w =>
    obtain ⟨hbase, htwin⟩ := h.bases i u w hu hunissued hwrite hw
    have hcopy (b : Bank) (a : Address) : t.windows[w].copyAddress b a = s.windows[w].copyAddress b a := by
      cases b <;> simp only [Window.copyAddress, Window.bankBase, hbase, htwin]
    simp only [State.writeTargets, hw, hcopy, (h.windows w).shadow, (h.windows w).live]

theorem State.WaitsAlike.targetLines {i : Fin 8} {u : Transfer} (hreads : s.pendingReadsAddressed)
    (hu : s.port.slots[i] = some u) : t.targetLines u = s.targetLines u := by
  by_cases hissued : u.phase = .issued
  · rw [State.targetLines_of_issued hissued, State.targetLines_of_issued hissued]
  · have hunissued : u.unissued = true := by simpa [Transfer.unissued] using hissued
    rw [State.targetLines_of_unissued hissued, State.targetLines_of_unissued hissued]
    cases ha : u.readAddress with
    | some a => rfl
    | none =>
      have hwrite : u.request.kind.isWrite = true := by
        by_contra hread
        have := hreads i u hu hunissued (by simpa using hread)
        rw [ha] at this
        cases this
      exact h.writeTargets hu hunissued hwrite

theorem State.WaitsAlike.windowWaits {i : Fin 8} {u : Transfer} (hu : s.port.slots[i] = some u)
    (hunissued : u.unissued = true) : t.windowWaits u = s.windowWaits u := by
  by_cases hwrite : u.request.kind.isWrite = true
  · have hmeets : t.copyMeets u = s.copyMeets u := by
      have hon (a : Address) : t.copyOn a = s.copyOn a := by simp only [State.copyOn, h.carry]
      simp only [State.copyMeets, h.writeTargets hu hunissued hwrite, funext hon]
    have hindex (w : WindowId) (hw : u.window = some w) :
        t.windows[w].lineIndex u.request.address = s.windows[w].lineIndex u.request.address := by
      simp only [Window.lineIndex, (h.bases i u w hu hunissued hwrite hw).1]
    have hstale : t.stale u = s.stale u := by
      cases hw : u.window with
      | none => simp only [State.stale, hw]
      | some w => simp only [State.stale, hw, hindex w hw, (h.windows w).carry]
    have hneed : t.demandNeed u = s.demandNeed u := by
      cases hw : u.window with
      | none => cases hr : u.route <;> simp only [State.demandNeed, hw, hr]
      | some w => cases hr : u.route <;> simp only [State.demandNeed, hw, hr, hindex w hw, hmeets, hstale]
    simp only [State.windowWaits, hmeets, hneed, hstale, h.carry, h.draining]
  · simp only [State.windowWaits, hwrite, Bool.false_eq_true, if_false]

end

/-- A transfer with another hold count waits as it does. -/
theorem State.windowWaits_hold (s : State) (u : Transfer) (x : Option HoldCount) :
    s.windowWaits { u with hold := x } = s.windowWaits u := rfl

theorem State.heldBehind_hold (s : State) (o u : Transfer) (x y : Option HoldCount) :
    s.heldBehind { o with hold := x } { u with hold := y } = s.heldBehind o u := rfl

/-- R107: the transfers are tested as they are in a state in which they wait alike, whatever their hold counts. -/
theorem State.transfersTested_congr {s t : State} (h : s.transfersTested) (hreads : s.pendingReadsAddressed)
    (halike : s.WaitsAlike t) {f : Transfer → Transfer} (hf : ∀ u, ∃ x, f u = { u with hold := x })
    (hslots : ∀ i : Fin 8, t.port.slots[i] = s.port.slots[i].map f) : t.transfersTested := by
  intro i u' hu' hunissued'
  rw [Option.mem_def, hslots] at hu'
  obtain ⟨u, hu, rfl⟩ := Option.map_eq_some_iff.1 hu'
  have hheld : t.orderHeld (f u) = s.orderHeld u := by
    simp only [State.orderHeld, hslots]
    congr 1
    funext j
    cases hj : s.port.slots[j] with
    | none => rfl
    | some o =>
      obtain ⟨x, hx⟩ := hf o
      obtain ⟨y, hy⟩ := hf u
      simp only [Option.map_some, hx, hy, State.heldBehind_hold]
      simp only [State.heldBehind, halike.targetLines hreads hj, halike.targetLines hreads hu, halike.drainsAsRead]
  obtain ⟨x, hx⟩ := hf u
  have hunissued : u.unissued = true := by rw [hx] at hunissued'; exact hunissued'
  have hwaits : t.waits (f u) = s.waits u := by
    simp only [State.waits, hheld]
    rw [hx, State.windowWaits_hold, halike.windowWaits hu hunissued]
  have hphase : (f u).phase = u.phase := by rw [hx]
  rw [hwaits, hphase]
  exact h i u hu hunissued

theorem State.transfersTested_of_blocks {s t : State} (h : s.transfersTested) (hreads : s.pendingReadsAddressed)
    (hwindows : t.windows = s.windows) (hcarry : t.carry = s.carry) (hslots : t.port.slots = s.port.slots) :
    t.transfersTested :=
  State.transfersTested_congr h hreads (.of_windows hcarry hwindows) (f := id) (fun u => ⟨u.hold, rfl⟩)
    fun i => by rw [hslots, Option.map_id]; rfl

/-- The end of an event that changes no window, no group, no copier and no transfer. -/
theorem State.Safe.congr {q : Prop} {s t : State} (h : s.Safe q) (hf : s.Follows t) (hwindows : t.windows = s.windows)
    (hcarry : t.carry = s.carry) (hgroups : t.groups = s.groups) (hslots : t.port.slots = s.port.slots)
    (hoffered : t.port.offered = s.port.offered) (hheld : s.resetHeld = true → t.resetHeld = true) : t.Safe q :=
  (h.sound.follow_same hf hwindows hgroups).safe
    (State.transfersTested_of_blocks h.inv.transfers h.inv.pendingReads hwindows hcarry hslots)
    (State.offeredOnlyWhenClosed_congr h.inv.offered hheld hoffered fun i hi => by rw [hslots]; exact hi)

/-- `State.Safe.congr` for an event that leaves the start-up controller, the pins and the frame. -/
theorem State.Safe.of_blocks {q : Prop} {s t : State} (h : s.Safe q) (hwindows : t.windows = s.windows)
    (hcarry : t.carry = s.carry) (hgroups : t.groups = s.groups) (hport : t.port.slots = s.port.slots ∧
    t.port.offered = s.port.offered) (hstartUp : t.startUp = s.startUp) (hpins : t.pins = s.pins)
    (hframe : s.link.frame = .idle → t.link.frame = .idle) : t.Safe q :=
  h.congr ⟨fun i u hu => ⟨u, hport.1 ▸ hu, .refl u⟩, fun c k hk => ⟨k, hcarry ▸ hk, .refl k⟩,
    fun hb => by rwa [State.bootInProgress, hstartUp] at hb, fun hp => hpins ▸ hp,
    fun hp => by rwa [State.resetHeld, hpins] at hp, fun _ => hframe⟩ hwindows hcarry hgroups hport.1 hport.2
    fun hp => by rwa [State.resetHeld, hpins]

end Sys2Proof.Machine
end

section
/-! What acceptance keeps of the promises of `State.Inv` (R97 to R104), and the end of an event that frees slots. -/

namespace Sys2Proof.Machine

open Sys2Proof

/-! ## What routing gives a transfer that is kept (R10 to R19) -/

/-- What a kept transfer has until its issue: a write is routed in its window's present state, a read has its address. -/
structure State.RoutedIn (s : State) (t : Transfer) : Prop where
  unissued : t.phase ≠ .issued
  write : t.request.kind.isWrite = true → s.pendingWriteRouted t
  read : t.request.kind.isWrite = false → t.readAddress.isSome = true

theorem State.routeMiss_routedIn (s : State) (r : Request) (n : Nat) (role : Option Role) :
    s.RoutedIn (keptTransfer r n none role .passThrough (if r.kind.isWrite then none else some r.address)) where
  unissued := by simp [keptTransfer]
  write h := ⟨if_pos h, rfl, fun _ => rfl, fun w hw => by cases hw⟩
  read h := by simp [keptTransfer, show r.kind.isWrite = false from h]

/-- A read that is kept with the address that routing gave it. -/
theorem State.read_routedIn (s : State) {t : Transfer} (hphase : t.phase = .ready) (hread : t.request.kind.isWrite = false)
    (haddress : t.readAddress.isSome = true) : s.RoutedIn t where
  unissued := by simp [hphase]
  write h := by rw [hread] at h; cases h
  read _ := haddress

/-- A write that is kept in a window whose home range it addresses. -/
theorem State.write_routedIn (s : State) {t : Transfer} {w : WindowId} (hphase : t.phase = .ready)
    (hwrite : t.request.kind.isWrite = true) (hread : t.readAddress = none) (hcounted : t.countedBank = none)
    (hwindow : t.window = some w) (hhome : s.windows[w].inHome t.request.address = true)
    (hroute : t.route = .liveBank ∧ s.windows[w].state = .suspended ∨
      (t.route = .shadowBank ∨ t.route = .bothBanks) ∧ s.windows[w].state.servesTwo = true) : s.RoutedIn t where
  unissued := by simp [hphase]
  read h := by rw [hwrite] at h; cases h
  write _ := by
    refine ⟨hread, hcounted, fun h => ?_, fun v hv => ?_⟩
    · rw [hwindow] at h; cases h
    · rw [hwindow] at hv
      cases hv
      obtain ⟨hr, hs⟩ | ⟨hr | hr, hs⟩ := hroute <;> simp [hr, hs, hhome, -Fin.getElem_fin]

theorem State.routeTwoBanks_routedIn {s : State} {r : Request} {n : Nat} {w : WindowId} {t : Transfer}
    (hhome : s.windows[w].inHome r.address = true) (hstate : s.windows[w].state.servesTwo = true)
    (h : s.routeTwoBanks r n w = .keep t) : s.RoutedIn t := by
  unfold State.routeTwoBanks at h
  split at h
  next hwrite =>
    unfold State.routeConsumerRead at h
    split at h <;> cases h
    exact s.read_routedIn rfl hwrite rfl
  next hwrite =>
    unfold State.routeConsumerWrite at h
    split at h <;> cases h
    exact s.write_routedIn rfl hwrite rfl rfl rfl hhome (.inr ⟨.inr rfl, hstate⟩)
  next hwrite =>
    unfold State.routeProducerRead at h
    split at h <;> cases h <;> exact s.read_routedIn rfl hwrite rfl
  next hwrite =>
    unfold State.routeProducerWrite at h
    dsimp only at h
    split at h <;> cases h
    exact s.write_routedIn rfl hwrite rfl rfl rfl hhome (.inr ⟨.inl rfl, hstate⟩)

theorem State.routing_routedIn {s : State} {r : Request} {n : Nat} {t : Transfer} (h : s.routing r n = .keep t) :
    s.RoutedIn t := by
  unfold State.routing at h
  split at h
  next w hplace =>
    have hhome := (State.place_home_iff.1 hplace).2
    unfold State.routeHome at h
    split at h
    next => cases h; exact s.routeMiss_routedIn r n none
    next hstate => exact State.routeTwoBanks_routedIn hhome (by rw [hstate]; rfl) h
    next hstate => exact State.routeTwoBanks_routedIn hhome (by rw [hstate]; rfl) h
    next =>
      split at h <;> cases h
      next hread => exact s.read_routedIn rfl (Bool.eq_false_of_not_eq_true hread) (by simp [keptTransfer, hread])
    next hstate =>
      cases h
      cases hkind : r.kind.isWrite with
      | false => exact s.read_routedIn rfl hkind (by simp [keptTransfer])
      | true => exact s.write_routedIn rfl hkind (by simp [keptTransfer]) rfl rfl hhome (.inl ⟨rfl, hstate⟩)
    next =>
      split at h <;> cases h
      next hread => exact s.read_routedIn rfl (Bool.eq_false_of_not_eq_true hread) (by simp [keptTransfer, hread])
  next => cases h; exact s.routeMiss_routedIn r n none
  next => cases h; exact s.routeMiss_routedIn r n none

/-! ## A transfer that enters the table -/

theorem State.pendingWriteRouted_of_counts {s t : State} {u : Transfer} (h : s.pendingWriteRouted u)
    (hwindows : ∀ w : WindowId, ∃ m n, t.windows[w] = s.windows[w].withCounts m n) : t.pendingWriteRouted u := by
  obtain ⟨hread, hcounted, hnone, hsome⟩ := h
  refine ⟨hread, hcounted, hnone, fun w hu => ?_⟩
  obtain ⟨m, n, hsame⟩ := hwindows w
  rw [hsame]
  exact hsome w hu

/-- The promises are kept where one transfer that routing kept enters the table. -/
theorem State.Sound.begin {q : Prop} {s t : State} (h : s.Sound q) {i : Fin 8} {u : Transfer} (hu : s.RoutedIn u)
    (hslots : t.port.slots = s.port.slots.set i (some u))
    (hwindows : ∀ w : WindowId, ∃ m n, t.windows[w] = s.windows[w].withCounts m n) (hcarry : t.carry = s.carry)
    (hgroups : t.groups = s.groups) (hboot : t.bootInProgress = false) (hopen : t.resetHeld = false) : t.Sound q where
  windows w := by
    obtain ⟨m, n, hw⟩ := hwindows w
    rw [hw]
    exact h.windows w
  groups := by
    refine State.blockedMatchesFaults_congr h.groups (fun g => hgroups ▸ Iff.rfl) fun w => ?_
    obtain ⟨m, n, hw⟩ := hwindows w
    rw [hw]
    exact ⟨Iff.rfl, fun _ => rfl⟩
  pendingWrites j v hv hunissued hwrite := by
    refine State.pendingWriteRouted_of_counts ?_ hwindows
    rw [hslots, vector_set_apply] at hv
    split at hv
    · cases hv
      exact hu.write hwrite
    · exact h.pendingWrites j v hv hunissued hwrite
  pendingReads j v hv hunissued hread := by
    rw [hslots, vector_set_apply] at hv
    split at hv
    · cases hv
      exact hu.read hread
    · exact h.pendingReads j v hv hunissued hread
  copies c k hk howned := by
    obtain ⟨m, n, hw⟩ := hwindows k.window
    rw [hw]
    exact h.copies c k (hcarry ▸ hk) howned
  copiers := by
    simp only [State.copiesApart, hcarry]
    exact h.copiers
  boot := by
    have hpwrup := (t.resetHeld_eq_false.1 hopen).1
    simp [State.bootQuiet, hboot, hpwrup]
  reset hheld := by rw [hopen] at hheld; cases hheld
  exclude hq := by
    have hs := s.copiesExcludeWrites_iff.1 (h.exclude hq)
    refine t.copiesExcludeWrites_iff.2 fun c k hk j v hv hwrite hissued => ?_
    rw [hslots, vector_set_apply] at hv
    split at hv
    · cases hv
      exact absurd hissued hu.unissued
    · exact hs c k (hcarry ▸ hk) j v hv hwrite hissued

theorem State.countRead_window (s : State) (u : Transfer) (w : WindowId) :
    ∃ m n, (s.countRead u).windows[w] = s.windows[w].withCounts m n := by
  unfold State.countRead
  split
  · rename_i v b _ _
    simp only [State.setWindow_windows, vector_set_apply]
    split
    · subst_vars
      exact s.windows[v].withLiveReads_eq_withCounts b _
    · exact s.windows[w].withCounts_self
  · exact s.windows[w].withCounts_self

/-! ## One acceptance (R97 to R104) -/

/-- The promises as they hold before and after each acceptance: those within an event, and the test of the transfers. -/
structure State.Tested (q : Prop) (s : State) : Prop where
  sound : s.Sound q
  transfers : s.transfersTested

theorem State.Sound.retest_tested {q : Prop} {s : State} (h : s.Sound q) : s.retest.Tested q :=
  ⟨h.retest, s.retest_transfersTested⟩

/-- What an operation keeps that changes only locks, events, and the port beside its table. -/
structure State.SameWork (s t : State) : Prop where
  windows : t.windows = s.windows
  carry : t.carry = s.carry
  groups : t.groups = s.groups
  slots : t.port.slots = s.port.slots
  startUp : t.startUp = s.startUp
  pins : t.pins = s.pins
  link : t.link = s.link

theorem State.SameWork.trans {s t u : State} (h : s.SameWork t) (k : t.SameWork u) : s.SameWork u :=
  ⟨k.windows.trans h.windows, k.carry.trans h.carry, k.groups.trans h.groups, k.slots.trans h.slots,
    k.startUp.trans h.startUp, k.pins.trans h.pins, k.link.trans h.link⟩

theorem State.SameWork.follows {s t : State} (h : s.SameWork t) : s.Follows t :=
  .of_blocks h.slots (congrArg CarryEngine.copiers h.carry) h.startUp h.pins h.link

theorem State.SameWork.sound {q : Prop} {s t : State} (h : s.SameWork t) (hs : s.Sound q) : t.Sound q :=
  hs.follow_same h.follows h.windows h.groups

theorem State.SameWork.tested {q : Prop} {s t : State} (h : s.SameWork t) (hs : s.Tested q) : t.Tested q :=
  ⟨h.sound hs.sound,
    State.transfersTested_of_blocks hs.transfers hs.sound.pendingReads h.windows h.carry h.slots⟩

theorem State.record_sameWork (s : State) (r : EventRecord) : s.SameWork (s.record r) := ⟨rfl, rfl, rfl, rfl, rfl, rfl, rfl⟩

theorem State.recordAll_sameWork (s : State) (r : Option EventRecord) : s.SameWork (s.recordAll r) := by
  constructor <;> simp

theorem State.respond_sameWork (s : State) (r : Request) (st : Status) (data : List Beat) :
    s.SameWork (s.respond r st data) := by
  constructor <;> simp

theorem State.answerNow_sameWork (s : State) (r : Request) (st : Status) : s.SameWork (s.answerNow r st) := by
  constructor <;> simp

theorem State.setLock_sameWork (s : State) (j : Fin 4) (x : Option Lock) : s.SameWork (s.setLock j x) :=
  ⟨rfl, rfl, rfl, rfl, rfl, rfl, rfl⟩

theorem State.withPort_sameWork (s : State) {x : SystemPort} (h : x.slots = s.port.slots) : s.SameWork (s.withPort x) :=
  ⟨rfl, rfl, rfl, h, rfl, rfl, rfl⟩

theorem State.Tested.finishRouting {q : Prop} {s : State} (h : s.Tested q) (hboot : s.bootInProgress = false)
    (hopen : s.resetHeld = false) (i : Fin 8) (r : Request) {result : Routing}
    (hrouted : ∀ t, result = .keep t → s.RoutedIn t) : (s.finishRouting i r result).Tested q := by
  unfold State.finishRouting
  split
  · exact ((s.recordAll_sameWork _).trans (State.answerNow_sameWork _ _ _)).tested h
  · rename_i u
    refine State.Sound.retest_tested (h.sound.begin (i := i) (hrouted u rfl) ?_ (fun w => ?_) ?_ ?_ ?_ ?_)
    · simp
    · simpa using (s.setSlot i (some u)).countRead_window u w
    · simp
    · simp
    · simpa [State.bootInProgress] using hboot
    · simpa [State.resetHeld] using hopen

theorem State.SameWork.routedIn {s t : State} (h : s.SameWork t) {u : Transfer} (hu : s.RoutedIn u) : t.RoutedIn u where
  unissued := hu.unissued
  read := hu.read
  write hw := State.pendingWriteRouted_of_counts (hu.write hw) fun w => by
    rw [h.windows]
    exact s.windows[w].withCounts_self

theorem State.Tested.interlockAndRoute {q : Prop} {s : State} (h : s.Tested q) (hboot : s.bootInProgress = false)
    (hopen : s.resetHeld = false) (i : Fin 8) (r : Request) (n : Nat) : (s.interlockAndRoute i r n).Tested q := by
  have hrouted (u : Transfer) (hu : s.routing r n = .keep u) : s.RoutedIn u := State.routing_routedIn hu
  unfold State.interlockAndRoute
  split
  · exact (s.respond_sameWork _ _ _).tested h
  · exact ((s.record_sameWork _).trans (State.respond_sameWork _ _ _ _)).tested h
  · exact h.finishRouting hboot hopen i r hrouted
  · rename_i j l _
    have hsame := s.setLock_sameWork j (some { l with claim := some r.tag })
    exact State.Tested.finishRouting (hsame.tested h) hboot hopen i r fun u hu => hsame.routedIn (hrouted u hu)

theorem State.Tested.checkRequest {q : Prop} {s : State} (h : s.Tested q) (hopen : s.resetHeld = false) (i : Fin 8)
    (r : Request) (n : Nat) : (s.checkRequest i r n).Tested q := by
  unfold State.checkRequest
  split
  next => exact (s.respond_sameWork _ _ _).tested h
  next hboot =>
    have hboot : s.bootInProgress = false := Bool.eq_false_of_not_eq_true hboot
    split
    next => exact (s.respond_sameWork _ _ _).tested h
    next =>
      split
      next => exact ((s.record_sameWork _).trans (State.respond_sameWork _ _ _ _)).tested h
      next =>
        split
        · exact ((s.record_sameWork _).trans (State.respond_sameWork _ _ _ _)).tested h
        · exact h.interlockAndRoute hboot hopen i r n
        · exact h.interlockAndRoute hboot hopen i r n

/-! ## What stands offered is accepted (R97) -/

theorem State.checkRequest_offered (s : State) (i : Fin 8) (r : Request) (n : Nat) :
    (s.checkRequest i r n).port.offered = s.port.offered := by
  have hfinish (a : State) (result : Routing) : (a.finishRouting i r result).port.offered = a.port.offered := by
    unfold State.finishRouting
    split <;> simp
  have hroute : (s.interlockAndRoute i r n).port.offered = s.port.offered := by
    unfold State.interlockAndRoute
    split
    · simp
    · simp
    · exact hfinish s _
    · exact hfinish (s.setLock _ _) _
  unfold State.checkRequest
  repeat' split
  · simp
  · simp
  · simp
  · simp
  · exact hroute
  · exact hroute

theorem State.accept_offered (s : State) (i : Fin 8) (r : Request) : (s.accept i r).port.offered = s.port.offered :=
  State.checkRequest_offered _ i r _

theorem State.Tested.accept {q : Prop} {s : State} (h : s.Tested q) (hopen : s.resetHeld = false) (i : Fin 8)
    (r : Request) : (s.accept i r).Tested q :=
  State.Tested.checkRequest
    ((s.withPort_sameWork (x := { s.port with nextAcceptance := s.port.nextAcceptance + 1 }) rfl).tested h) hopen i r _

/-- R97: after as many acceptances as requests stand offered, one stands offered only while the port is closed. -/
theorem State.Tested.acceptUpTo {q : Prop} (n : Nat) {s : State} (h : s.Tested q) (hn : s.port.offered.length ≤ n) :
    (State.acceptUpTo n s).Tested q ∧ (State.acceptUpTo n s).offeredOnlyWhenClosed := by
  induction n generalizing s with
  | zero => exact ⟨h, .inr (.inl (List.length_eq_zero_iff.1 (Nat.le_zero.1 hn)))⟩
  | succ n ih =>
    unfold State.acceptUpTo
    split
    next hnone =>
      refine ⟨h, ?_⟩
      have hclosed := s.nextAccepted_none.1 hnone
      by_cases hheld : s.resetHeld = true
      · exact .inl hheld
      · by_cases hoffered : s.port.offered = []
        · exact .inr (.inl hoffered)
        · exact .inr (.inr fun i hi => hclosed ⟨Bool.eq_false_of_not_eq_true hheld, hoffered, i, hi⟩)
    next i r rest hsome =>
      obtain ⟨hopen, hoffered, -, -⟩ := State.nextAccepted_some.1 hsome
      have hrest := (s.withPort_sameWork (x := { s.port with offered := rest }) rfl).tested h
      refine ih (State.Tested.accept hrest hopen i r) ?_
      rw [State.accept_offered]
      rw [hoffered, List.length_cons] at hn
      exact Nat.le_of_succ_le_succ hn

theorem State.Tested.acceptStanding {q : Prop} {s : State} (h : s.Tested q) : s.acceptStanding.Safe q := by
  obtain ⟨htested, hoffered⟩ := h.acceptUpTo s.port.offered.length le_rfl
  exact htested.sound.safe htested.transfers hoffered

theorem State.Safe.tested {q : Prop} {s : State} (h : s.Safe q) : s.Tested q := ⟨h.sound, h.inv.transfers⟩

/-- The end of an event that frees slots: the test of the transfers, then what stands offered. -/
theorem State.Sound.settled {q : Prop} {s : State} (h : s.Sound q) : s.retest.acceptStanding.Safe q :=
  h.retest_tested.acceptStanding

end Sys2Proof.Machine
end

section
/-! What the window unit keeps of the promises of `State.Inv`: faults (R28), ENABLE, DISABLE and SUSPEND (R23 to R27), changes
of ranges (R5, R186). -/

namespace Sys2Proof.Machine

open Sys2Proof

/-! ## Settled writes and dropped carry work (R22) -/

theorem State.testRollbacks_state (s : State) (g : GroupId) : s.testRollbacks.groups[g].state = s.groups[g].state := by
  rw [s.testRollbacks_rollbacksEnd.1 g]
  split <;> rfl

theorem State.testRollbacks_follows (s : State) : s.Follows s.testRollbacks := by
  apply State.Follows.of_blocks <;> simp only [State.testRollbacks_frame]

theorem State.Sound.testRollbacks {q : Prop} {s : State} (h : s.Sound q) : s.testRollbacks.Sound q :=
  h.follow_counts s.testRollbacks_follows
    (fun w => by rw [s.testRollbacks_frame.1]; exact s.windows[w].withCounts_self)
    (fun g => by rw [State.testRollbacks_state]) fun _ hsleep g => by rw [State.testRollbacks_state]; exact hsleep.groups g

theorem State.settleWrites_follows (s : State) (p : Address → Bool) (st : Status) : s.Follows (s.settleWrites p st) := by
  refine foldl_keeps (fun a => s.Follows a) _ (fun a i ha => ha.trans ?_) _ s (.refl s)
  unfold State.settleSlot
  split
  · exact .refl a
  · split
    · exact a.answer_follows i st []
    · exact .refl a

theorem State.dropCarryWork_follows (s : State) (w : WindowId) : s.Follows (s.dropCarryWork w) where
  slots i u hu := ⟨u, hu, .refl u⟩
  copiers c k hk := by
    rw [State.dropCarryWork_copier, Copier.disown_eq] at hk
    cases hc : s.carry.copiers[c] with
    | idle => rw [hc] at hk; cases hk
    | busy j =>
      rw [hc] at hk
      refine ⟨j, rfl, ?_⟩
      dsimp only at hk
      split at hk
      · split at hk
        · cases hk
          exact ⟨rfl, rfl, rfl, rfl, fun h => (by cases h)⟩
        · cases hk
      · cases hk
        exact .refl _
  boot := id
  pwrup := id
  held := id
  frame _ := id

/-- R22: no copy of a window is owned once its carry work is dropped. -/
theorem State.dropCarryWork_owned {s : State} {w : WindowId} {c : Fin 2} {k : CopyRecord}
    (h : (s.dropCarryWork w).carry.copiers[c] = .busy k) (howned : k.owned = true) : k.window ≠ w := by
  rw [State.dropCarryWork_copier, Copier.disown_eq] at h
  cases hc : s.carry.copiers[c] with
  | idle => rw [hc] at h; cases h
  | busy j =>
    rw [hc] at h
    dsimp only at h
    split at h
    next =>
      split at h
      · cases h
        cases howned
      · cases h
    next hne =>
      cases h
      exact fun hw => hne ⟨hw, howned⟩

/-! ## A window that takes a new record -/

/-- What an event leaves in which one window takes a new record and no other changes but in its counts. -/
structure State.ChangesWindow (s t : State) (w : WindowId) (y : Window) : Prop where
  follows : s.Follows t
  window : ∃ m n, t.windows[w] = y.withCounts m n
  others : ∀ v : WindowId, v ≠ w → ∃ m n, t.windows[v] = s.windows[v].withCounts m n

theorem State.ChangesWindow.then {s t u : State} {w : WindowId} {y : Window} (h : s.ChangesWindow t w y)
    (hf : t.Follows u) (hwindows : u.windows = t.windows) : s.ChangesWindow u w y :=
  ⟨h.follows.trans hf, hwindows ▸ h.window, hwindows ▸ h.others⟩

theorem State.setWindow_changes (s : State) (w : WindowId) (y : Window) : s.ChangesWindow (s.setWindow w y) w y where
  follows := .of_blocks rfl rfl rfl rfl rfl
  window := by
    rw [State.setWindow_windows, vector_set_self]
    exact y.withCounts_self
  others v hv := by
    rw [State.setWindow_windows, vector_set_apply, if_neg (Ne.symm hv)]
    exact s.windows[v].withCounts_self

theorem State.changeSettled_changes (s : State) (w : WindowId) (y : Window) (p : Address → Bool) (st : Status) :
    s.ChangesWindow (s.changeSettled w y p st) w y where
  follows := by
    rw [State.changeSettled]
    exact (s.setWindow_changes w y).follows.trans (State.settleWrites_follows _ p st)
  window := by
    obtain ⟨m, n, hset⟩ := (s.setWindow w y).settleWrites_window p st w
    have hy : (s.setWindow w y).windows[w] = y := by rw [State.setWindow_windows, vector_set_self]
    rw [hy] at hset
    rw [State.changeSettled]
    exact ⟨m, n, hset⟩
  others v hv := by
    obtain ⟨m, n, hset⟩ := (s.setWindow w y).settleWrites_window p st v
    have hx : (s.setWindow w y).windows[v] = s.windows[v] := by
      rw [State.setWindow_windows, vector_set_apply, if_neg (Ne.symm hv)]
    rw [hx] at hset
    rw [State.changeSettled]
    exact ⟨m, n, hset⟩

/-- The promises are kept where one window takes a consistent record that fits its work. -/
theorem State.Sound.change {q : Prop} {s t : State} {w : WindowId} {y : Window} (h : s.Sound q)
    (hchange : s.ChangesWindow t w y) (hy : y.consistent) (hfit : t.WorkFits w) (hgroups : t.blockedMatchesFaults)
    (hawake : s.bootInProgress = true ∨ s.pins.pwrupLow = true → ¬ s.Asleep) : t.Sound q := by
  refine h.follow hchange.follows (fun v => ?_) hgroups fun hs hsleep => absurd hsleep (hawake hs)
  by_cases hv : v = w
  · subst hv
    obtain ⟨m, n, hw⟩ := hchange.window
    refine .inr ⟨?_, hfit⟩
    rw [hw]
    exact hy
  · exact .inl (hchange.others v hv)

/-- R22: no work is left in a window whose pending writes are answered and whose copies are dropped. -/
theorem State.WorkFits.of_none {t : State} {w : WindowId}
    (hwrites : ∀ i : Fin 8, ∀ u, t.port.slots[i] = some u → u.unissued = true → u.request.kind.isWrite = true →
      u.window ≠ some w)
    (hcopies : ∀ c : Fin 2, ∀ k, t.carry.copiers[c] = .busy k → k.owned = true → k.window ≠ w) : t.WorkFits w where
  writes i u hu hunissued hwrite hw := absurd hw (hwrites i u hu hunissued hwrite)
  copies c k hk howned hw := absurd hw (hcopies c k hk howned)

/-- R22: the writes of a window that are not yet issued lie in its home range, so settling its ranges answers them all. -/
theorem State.Sound.changeSettled_noWrites {q : Prop} {s : State} (h : s.Sound q) (w : WindowId) (y : Window)
    {p : Address → Bool} (hp : ∀ a, s.windows[w].inHome a = true → p a = true) (st : Status) {i : Fin 8} {u : Transfer}
    (hu : (s.changeSettled w y p st).port.slots[i] = some u) (hunissued : u.unissued = true)
    (hwrite : u.request.kind.isWrite = true) : u.window ≠ some w := by
  intro hw
  rw [State.changeSettled] at hu
  obtain ⟨hslot, hpending⟩ := State.settleWrites_slot.1 hu
  rw [State.setWindow_port] at hslot
  obtain ⟨-, -, -, hhome⟩ := h.pendingWrites i u hslot hunissued hwrite
  exact hpending ⟨by simpa [Transfer.unissued] using hunissued, hwrite, hp _ (hhome w hw).1⟩

/-- R33: no copy is owned in a window whose lines are not copied. -/
theorem State.Sound.not_owned {q : Prop} {s : State} (h : s.Sound q) {w : WindowId}
    (hstate : s.windows[w].state.copies = false) {c : Fin 2} {k : CopyRecord} (hk : s.carry.copiers[c] = .busy k)
    (howned : k.owned = true) : k.window ≠ w := by
  rintro rfl
  have hcopies := (h.copies c k (Copier.mem_record?.2 hk) howned).1
  rw [hstate] at hcopies
  cases hcopies

/-! ## The groups of a window that takes a new record (R58, R75, R76) -/

theorem State.ChangesWindow.memberFaulted_iff {s t : State} {w : WindowId} {y : Window} (h : s.ChangesWindow t w y)
    (g : GroupId) : t.memberFaulted g = true ↔ (y.group = g ∧ y.state = .faulted) ∨
      ∃ v : WindowId, v ≠ w ∧ s.windows[v].group = g ∧ s.windows[v].state = .faulted := by
  rw [State.memberFaulted_iff]
  obtain ⟨m, n, hw⟩ := h.window
  constructor
  · rintro ⟨v, hgroup, hstate⟩
    by_cases hv : v = w
    · subst hv
      rw [hw] at hgroup hstate
      exact .inl ⟨hgroup, hstate⟩
    · obtain ⟨a, b, hsame⟩ := h.others v hv
      rw [hsame] at hgroup hstate
      exact .inr ⟨v, hv, hgroup, hstate⟩
  · rintro (⟨hgroup, hstate⟩ | ⟨v, hv, hgroup, hstate⟩)
    · refine ⟨w, ?_⟩
      rw [hw]
      exact ⟨hgroup, hstate⟩
    · obtain ⟨a, b, hsame⟩ := h.others v hv
      refine ⟨v, ?_⟩
      rw [hsame]
      exact ⟨hgroup, hstate⟩

/-- R75: the group of a window that is FAULTED now is BLOCKED. -/
theorem State.ChangesWindow.blocks {s t : State} {w : WindowId} {y : Window} (h : s.ChangesWindow t w y)
    (hs : s.blockedMatchesFaults) (hstate : y.state = .faulted) (hgroup : y.group = s.windows[w].group)
    (hgroups : ∀ g : GroupId, t.groups[g].state = .blocked ↔ g = y.group ∨ s.groups[g].state = .blocked) :
    t.blockedMatchesFaults := by
  intro g
  rw [hgroups g, h.memberFaulted_iff, hs g, State.memberFaulted_iff]
  constructor
  · rintro (rfl | ⟨v, hg, hv⟩)
    · exact .inl ⟨rfl, hstate⟩
    · by_cases hvw : v = w
      · subst hvw
        exact .inl ⟨hgroup.trans hg, hstate⟩
      · exact .inr ⟨v, hvw, hg, hv⟩
  · rintro (⟨hg, -⟩ | ⟨v, -, hg, hv⟩)
    · exact .inl hg.symm
    · exact .inr ⟨v, hg, hv⟩

/-- R76: the group of a window that is not FAULTED now is BLOCKED while another member is FAULTED. -/
theorem State.ChangesWindow.unblocks {s t : State} {w : WindowId} {y : Window} (h : s.ChangesWindow t w y)
    (hs : s.blockedMatchesFaults) (hstate : y.state ≠ .faulted)
    (hgroups : ∀ g : GroupId, t.groups[g].state = .blocked ↔
      s.groups[g].state = .blocked ∧ (g = s.windows[w].group → t.memberFaulted g = true)) :
    t.blockedMatchesFaults := by
  intro g
  rw [hgroups g, hs g]
  have hfaulted : t.memberFaulted g = true → s.memberFaulted g = true := by
    rw [h.memberFaulted_iff, State.memberFaulted_iff]
    rintro (⟨-, hf⟩ | ⟨v, -, hv⟩)
    · exact absurd hf hstate
    · exact ⟨v, hv⟩
  refine ⟨fun ⟨hf, hsame⟩ => ?_, fun hf => ⟨hfaulted hf, fun _ => hf⟩⟩
  by_cases hg : g = s.windows[w].group
  · exact hsame hg
  · rw [h.memberFaulted_iff]
    obtain ⟨v, hv, hvf⟩ := (s.memberFaulted_iff g).1 hf
    exact .inr ⟨v, fun hvw => hg (hvw ▸ hv.symm), hv, hvf⟩

theorem State.unblockGroup_blocked (s : State) (g h : GroupId) :
    (s.unblockGroup g).groups[h].state = .blocked ↔
      s.groups[h].state = .blocked ∧ (h = g → s.memberFaulted h = true) := by
  unfold State.unblockGroup
  split
  next hb =>
    split
    next hf => exact ⟨fun hh => ⟨hh, fun hg => hg ▸ hf⟩, And.left⟩
    next hf =>
      simp only [State.setGroup_groups, vector_set_apply]
      by_cases hg : g = h
      · subst hg
        simp [hf]
      · simp [hg, Ne.symm hg]
  next ho => exact ⟨fun hh => ⟨hh, fun hg => by rw [hg, ho] at hh; cases hh⟩, And.left⟩
  next ho => exact ⟨fun hh => ⟨hh, fun hg => by rw [hg, ho] at hh; cases hh⟩, And.left⟩

theorem State.memberFaulted_of_windows {s t : State} (h : t.windows = s.windows) (g : GroupId) :
    t.memberFaulted g = s.memberFaulted g := by
  simp only [State.memberFaulted, h]

/-! ## Records of windows that stop or start (R24, R26 to R28) -/

/-- A window without staged lines. -/
theorem Window.consistent_of_clean {y : Window} (hdirty : y.dirty = []) (hcarry : ∀ l ∈ y.carry, l < y.lines)
    (hmatch : y.state = .disabled ∨ y.state = .suspended ∨ y.state = .faulted → y.carry = [])
    (hfault : y.faultMatchesState) (hlive : y.disabledLive) (hranges : y.rangesKept) : y.consistent := by
  refine ⟨?_, ?_, fun h => ⟨hdirty, hmatch h⟩, fun _ => hdirty, hfault, hlive, hranges⟩
  · simp [Window.setsDisjoint, hdirty]
  · simpa [Window.setsInRange, hdirty] using hcarry

theorem Window.mem_everyLine (x : Window) (line : Nat) : line ∈ x.everyLine ↔ line < x.lines := List.mem_range

theorem Window.faultedAt_consistent {x : Window} (h : x.consistent) (hstate : x.state ≠ .disabled) (a : Address) :
    (x.faultedAt a).consistent := by
  obtain ⟨-, -, -, -, -, -, hranges⟩ := h
  exact Window.consistent_of_clean rfl (by simp [Window.faultedAt]) (fun _ => rfl) (by simp [Window.faultMatchesState, Window.faultedAt])
    (by simp [Window.faultedAt]) fun _ => hranges hstate

theorem Window.suspendedBy_consistent {x : Window} (h : x.consistent) (hstate : x.state ≠ .disabled) :
    x.suspendedBy.consistent := by
  obtain ⟨-, -, -, -, -, -, hranges⟩ := h
  exact Window.consistent_of_clean rfl (by simp [Window.suspendedBy]) (fun _ => rfl) (by simp [Window.faultMatchesState, Window.suspendedBy])
    (by simp [Window.suspendedBy]) fun _ => hranges hstate

theorem Window.enabledBy_consistent {x : Window} (h : x.rangesValid = true) : x.enabledBy.consistent :=
  Window.consistent_of_clean rfl (fun l hl => (x.mem_everyLine l).1 hl) (by simp [Window.enabledBy])
    (by simp [Window.faultMatchesState, Window.enabledBy]) (by simp [Window.enabledBy]) fun _ => h

theorem Window.disabledBy_consistent {x : Window} (h : x.consistent) (hstate : x.state ≠ .disabled) :
    x.disabledBy.consistent := by
  obtain ⟨-, -, -, -, -, -, hranges⟩ := h
  unfold Window.disabledBy
  split
  next hlive =>
    exact Window.consistent_of_clean rfl (by simp) (fun _ => rfl) (by simp [Window.faultMatchesState]) (fun _ => hlive)
      fun h => absurd rfl h
  next =>
    exact Window.consistent_of_clean rfl (fun l hl => (x.mem_everyLine l).1 hl) (by simp)
      (by simp [Window.faultMatchesState]) (by simp) fun _ => hranges hstate

theorem Window.disabledBy_group (x : Window) : x.disabledBy.group = x.group ∧ x.disabledBy.state ≠ .faulted := by
  unfold Window.disabledBy
  split <;> exact ⟨rfl, by simp⟩

/-- R23: what a window has that passes the tests of ENABLE. -/
theorem State.enableTest_accepted {s : State} {w : WindowId} (h : s.enableTest w = .accepted) :
    s.windows[w].state.copies = false ∧ s.windows[w].rangesValid = true := by
  obtain ⟨hstate, hvalue, hoverlap⟩ := s.enableTest_eq w
  rw [h] at hstate hvalue hoverlap
  have hstate' := mt hstate (by decide)
  have hvalue' := mt (hvalue hstate') (by decide)
  have hoverlap' := mt (hoverlap hstate' hvalue') (by decide)
  obtain ⟨hsize, hbases⟩ := s.windows[w].valuesValid_iff.2 hvalue'
  have hself : s.windows[w].selfOverlap = false := Bool.eq_false_of_not_eq_true fun hs => hoverlap' (.inl hs)
  refine ⟨?_, by rw [Window.rangesValid, hsize, hbases, hself]; rfl⟩
  rw [← Bool.not_eq_true, WindowState.copies_iff]
  exact hstate'

/-! ## Faults (R28) -/

/-- R28: the promises after the fault of a window whose lines are copied. -/
theorem State.Sound.faultWindow {q : Prop} {s : State} (h : s.Sound q) {w : WindowId}
    (hstate : s.windows[w].state ≠ .disabled) (a : Address) : (s.faultWindow w a).Sound q := by
  have hchange : s.ChangesWindow (s.faulting w a) w (s.windows[w].faultedAt a) :=
    s.changeSettled_changes w (s.windows[w].faultedAt a) s.windows[w].inRanges .error
  have hwrites (i : Fin 8) (u : Transfer) (hu : (s.faulting w a).port.slots[i] = some u) :=
    h.changeSettled_noWrites w (s.windows[w].faultedAt a) (p := s.windows[w].inRanges)
      (fun a ha => by rw [Window.inRanges, ha, Bool.true_or]) .error hu
  obtain ⟨hg, -⟩ := (s.setWindow w (s.windows[w].faultedAt a)).settleWrites_groups_events s.windows[w].inRanges
    (st := .error) (by decide)
  have hgroups : (s.faulting w a).groups = s.groups := hg
  rw [State.faultWindow_eq]
  generalize s.faulting w a = f at *
  have hblocked := (((f.dropCarryWork w).record (.windowFault w a)).blockGroup_groups_events s.windows[w].group).1
  have hf : f.Follows (((f.dropCarryWork w).record (.windowFault w a)).blockGroup s.windows[w].group) :=
    (f.dropCarryWork_follows w).trans (.of_blocks (by simp) (by simp) (by simp) (by simp) (by simp))
  have hcarry : (((f.dropCarryWork w).record (.windowFault w a)).blockGroup s.windows[w].group).carry =
      (f.dropCarryWork w).carry := by simp
  have hport : (((f.dropCarryWork w).record (.windowFault w a)).blockGroup s.windows[w].group).port = f.port := by simp
  have hwindows : (((f.dropCarryWork w).record (.windowFault w a)).blockGroup s.windows[w].group).windows =
      f.windows := by simp
  have hfg : ((f.dropCarryWork w).record (.windowFault w a)).groups = s.groups := by simp [hgroups]
  rw [hfg] at hblocked
  generalize ((f.dropCarryWork w).record (.windowFault w a)).blockGroup s.windows[w].group = t at *
  have hchange' := hchange.then hf hwindows
  refine (h.change hchange' (Window.faultedAt_consistent (h.windows w) hstate a) ?_ ?_ fun _ hsleep =>
    hstate (hsleep.windows w)).testRollbacks
  · refine .of_none (fun i u hu => ?_) fun c k hk => ?_
    · rw [hport] at hu
      exact hwrites i u hu
    · rw [hcarry] at hk
      exact State.dropCarryWork_owned hk
  · refine hchange'.blocks h.groups rfl rfl fun g => ?_
    rw [hblocked, vector_set_apply]
    by_cases hgw : s.windows[w].group = g
    · subst hgw
      simp [Window.faultedAt]
    · simp [hgw, Ne.symm hgw, Window.faultedAt, -Fin.getElem_fin]

/-! ## ENABLE, DISABLE and SUSPEND (R24, R26, R27) -/

theorem State.unblockGroup_follows (s : State) (g : GroupId) : s.Follows (s.unblockGroup g) := by
  apply State.Follows.of_blocks <;> simp only [State.unblockGroup_frame]

/-- R22, R76: the promises where one window is no longer FAULTED or never was, its pending writes are answered and its group is
tested. -/
theorem State.Sound.stopOrStart {q : Prop} {s b : State} (h : s.Sound q) {w : WindowId} {y : Window}
    (hchange : s.ChangesWindow b w y) (hgroups : b.groups = s.groups) (hy : y.consistent) (hstate : y.state ≠ .faulted)
    (hfit : b.WorkFits w) (hawake : s.bootInProgress = true ∨ s.pins.pwrupLow = true → ¬ s.Asleep) :
    (b.unblockGroup s.windows[w].group).Sound q := by
  have hwindows : (b.unblockGroup s.windows[w].group).windows = b.windows := by simp only [State.unblockGroup_frame]
  have hcarry : (b.unblockGroup s.windows[w].group).carry = b.carry := by simp only [State.unblockGroup_frame]
  have hport : (b.unblockGroup s.windows[w].group).port = b.port := by simp only [State.unblockGroup_frame]
  have hchange' := hchange.then (b.unblockGroup_follows s.windows[w].group) hwindows
  refine h.change hchange' hy ?_ (hchange'.unblocks h.groups hstate fun g => ?_) hawake
  · refine ⟨fun i u hu hunissued hwrite hw => ?_, fun c k hk howned hw => ?_⟩
    · rw [hport] at hu
      have hrouted := hfit.writes i u hu hunissued hwrite hw
      simp only [State.pendingWriteRouted, hwindows]
      exact hrouted
    · rw [hcarry] at hk
      rw [hwindows]
      exact hfit.copies c k hk howned hw
  · rw [State.unblockGroup_blocked, hgroups, State.memberFaulted_of_windows hwindows]

theorem State.changeSettled_groups (s : State) (w : WindowId) (y : Window) (p : Address → Bool) {st : Status}
    (hst : st ≠ .okay) : (s.changeSettled w y p st).groups = s.groups :=
  ((s.setWindow w y).settleWrites_groups_events p hst).1

/-- R24: the promises after an ENABLE that passes its tests. -/
theorem State.Sound.enableTaken {q : Prop} {s : State} (h : s.Sound q) {w : WindowId} (htest : s.enableTest w = .accepted)
    (hawake : s.bootInProgress = true ∨ s.pins.pwrupLow = true → ¬ s.Asleep) : (s.enableTaken w).Safe q := by
  obtain ⟨hstate, hranges⟩ := State.enableTest_accepted htest
  have hcarry : (s.changeSettled w s.windows[w].enabledBy s.windows[w].inRanges .retry).carry = s.carry := by
    rw [State.changeSettled, ((s.setWindow w s.windows[w].enabledBy).settleWrites_frame _ _).1, State.setWindow_carry]
  have hchange := s.changeSettled_changes w s.windows[w].enabledBy s.windows[w].inRanges .retry
  have hgroups := s.changeSettled_groups w s.windows[w].enabledBy s.windows[w].inRanges (st := .retry) (by decide)
  have hwrites (i : Fin 8) (u : Transfer)
      (hu : (s.changeSettled w s.windows[w].enabledBy s.windows[w].inRanges .retry).port.slots[i] = some u) :=
    h.changeSettled_noWrites w s.windows[w].enabledBy (p := s.windows[w].inRanges)
      (fun a ha => by rw [Window.inRanges, ha, Bool.true_or]) .retry hu
  rw [State.enableTaken_eq]
  generalize s.changeSettled w s.windows[w].enabledBy s.windows[w].inRanges .retry = b at *
  have hfit : b.WorkFits w := .of_none hwrites fun c k hk => h.not_owned hstate (hcarry ▸ hk)
  exact (h.stopOrStart hchange hgroups (Window.enabledBy_consistent hranges) (by simp [Window.enabledBy]) hfit
    hawake).settled

/-- R26, R27: the promises after a window that was not DISABLED has stopped. -/
theorem State.Sound.changeState {q : Prop} {s : State} (h : s.Sound q) {w : WindowId} {y : Window}
    (hstate : s.windows[w].state ≠ .disabled) (hy : y.consistent) (hyf : y.state ≠ .faulted) :
    (s.changeState w y).Safe q := by
  have hchange := s.changeSettled_changes w y s.windows[w].inRanges .retry
  have hgroups := s.changeSettled_groups w y s.windows[w].inRanges (st := .retry) (by decide)
  have hwrites (i : Fin 8) (u : Transfer) (hu : (s.changeSettled w y s.windows[w].inRanges .retry).port.slots[i] = some u) :=
    h.changeSettled_noWrites w y (p := s.windows[w].inRanges) (fun a ha => by rw [Window.inRanges, ha, Bool.true_or])
      .retry hu
  rw [State.changeState_eq]
  generalize s.changeSettled w y s.windows[w].inRanges .retry = b at *
  have hdropped : (b.dropCarryWork w).WorkFits w := .of_none hwrites fun c k hk => State.dropCarryWork_owned hk
  exact ((h.stopOrStart (hchange.then (b.dropCarryWork_follows w) rfl) hgroups hy hyf hdropped
    fun _ hsleep => hstate (hsleep.windows w)).testRollbacks).settled

/-! ## Ranges (R5, R186) -/

theorem State.refuseWrite_safe {q : Prop} {s : State} (h : s.Safe q) : s.refuseWrite.Safe q :=
  h.of_blocks rfl rfl rfl ⟨rfl, rfl⟩ rfl rfl id

/-- R5: the record of a stopped window with other ranges. -/
theorem Window.consistent_of_ranges {x y : Window} (h : x.consistent) (hdirty : y.dirty = x.dirty)
    (hcarry : y.carry = x.carry) (hstate : y.state = x.state) (hlive : y.live = x.live)
    (hfault : y.faultAddress = x.faultAddress) (hstopped : x.state = .disabled ∨ x.state = .suspended)
    (hranges : x.state = .suspended → y.rangesValid = true) : y.consistent := by
  obtain ⟨-, -, hmatch, -, hfaulted, hdisabled, -⟩ := h
  obtain ⟨hd, hc⟩ := hmatch (hstopped.elim .inl (.inr ∘ .inl))
  have hdirty' := hdirty.trans hd
  have hcarry' := hcarry.trans hc
  refine Window.consistent_of_clean hdirty' (by simp [hcarry']) (fun _ => hcarry') ?_ ?_ fun hy => ?_
  · rw [Window.faultMatchesState, hfault, hstate]; exact hfaulted
  · rw [Window.disabledLive, hstate, hlive]; exact hdisabled
  · rw [hstate] at hy
    exact hranges (hstopped.resolve_left hy)

/-- R98: only a window that serves two banks or is SUSPENDED has writes routed and not yet issued. -/
theorem State.Sound.noWrites {q : Prop} {s : State} (h : s.Sound q) {w : WindowId}
    (htwoBanks : s.windows[w].state.servesTwo = false) (hsuspended : s.windows[w].state ≠ .suspended) {i : Fin 8} {u : Transfer} (hu : s.port.slots[i] = some u)
    (hunissued : u.unissued = true) (hwrite : u.request.kind.isWrite = true) : u.window ≠ some w := by
  intro hw
  obtain ⟨-, -, -, hrouted⟩ := h.pendingWrites i u hu hunissued hwrite
  obtain ⟨-, hpass, hlive, htwo⟩ := hrouted w hw
  rw [htwoBanks] at htwo
  cases hr : u.route with
  | passThrough => exact hpass hr
  | liveBank => exact hsuspended (hlive hr)
  | shadowBank => cases htwo (.inl hr)
  | bothBanks => cases htwo (.inr hr)

/-- The promises, within an event, where a stopped window that is left with no pending write takes other ranges, another group or
another policy. -/
theorem State.Sound.reconfigure {q : Prop} {s b : State} (h : s.Sound q) {w : WindowId} {y : Window}
    (hchange : s.ChangesWindow b w y) (hgroups : b.groups = s.groups)
    (hcarry : b.carry = s.carry) (hy : y.consistent) (hstopped : s.windows[w].state = .disabled ∨
      s.windows[w].state = .suspended) (hstate : y.state = s.windows[w].state)
    (hwrites : ∀ i : Fin 8, ∀ u, b.port.slots[i] = some u → u.unissued = true → u.request.kind.isWrite = true →
      u.window = some w → b.pendingWriteRouted u) : b.Sound q := by
  have hcopies : s.windows[w].state.copies = false := by
    obtain hs | hs := hstopped <;> rw [hs] <;> rfl
  have hfit : b.WorkFits w := ⟨hwrites, fun c k hk howned hw => absurd hw (h.not_owned hcopies (hcarry ▸ hk) howned)⟩
  have hnot : s.windows[w].state ≠ .faulted := by
    obtain hs | hs := hstopped <;> rw [hs] <;> simp
  have hwindow (v : WindowId) : b.windows[v].state = s.windows[v].state ∧
      (s.windows[v].state = .faulted → b.windows[v].group = s.windows[v].group) := by
    by_cases hv : v = w
    · subst hv
      obtain ⟨m, n, hw⟩ := hchange.window
      rw [hw]
      exact ⟨hstate, fun hf => absurd hf hnot⟩
    · obtain ⟨m, n, hsame⟩ := hchange.others v hv
      rw [hsame]
      exact ⟨rfl, fun _ => rfl⟩
  refine h.follow hchange.follows (fun v => ?_) ?_ fun _ hsleep => ⟨fun v => (hwindow v).1.trans (hsleep.windows v), ?_⟩
  · by_cases hv : v = w
    · subst hv
      obtain ⟨m, n, hw⟩ := hchange.window
      refine .inr ⟨?_, hfit⟩
      rw [hw]
      exact hy
    · exact .inl (hchange.others v hv)
  · exact State.blockedMatchesFaults_congr h.groups (fun g => hgroups ▸ Iff.rfl)
      fun v => ⟨by rw [(hwindow v).1], (hwindow v).2⟩
  · rw [hgroups]
    exact hsleep.groups

end Sys2Proof.Machine
end

section
/-! What the commands of the window unit and of the publication controller, boundaries and commits keep of the promises of
`State.Inv` (R5, R23 to R27, R63, R67, R78). -/

namespace Sys2Proof.Machine

open Sys2Proof

/-! ## Commands on a window -/

/-- A part with no boot load in progress and PWRUP_N high. -/
abbrev State.Awake (s : State) : Prop := s.bootInProgress = false ∧ s.pins.pwrupLow = false

theorem State.Awake.not_quiet {s : State} (h : s.Awake) : ¬ (s.bootInProgress = true ∨ s.pins.pwrupLow = true) := by
  simp [h.1, h.2]

theorem State.Safe.enableWindow {q : Prop} {s : State} (h : s.Safe q) (hawake : s.Awake) (w : WindowId) :
    (s.enableWindow w).2.Safe q := by
  by_cases htest : s.enableTest w = .accepted
  · rw [State.enableWindow_of_accepted htest]
    dsimp only
    exact h.sound.enableTaken htest fun hs => absurd hs hawake.not_quiet
  · rw [State.enableWindow_of_refused htest]
    exact h

theorem State.Safe.disableWindow {q : Prop} {s : State} (h : s.Safe q) (w : WindowId) : (s.disableWindow w).2.Safe q := by
  obtain ⟨hdisabled, hhoming, hother⟩ := s.disableWindow_eq w
  by_cases hd : s.windows[w].state = .disabled
  · rw [hdisabled hd]; exact h
  · by_cases hh : s.windows[w].state = .homing
    · rw [hhoming hh]; exact h
    · rw [hother hd hh]
      dsimp only
      exact h.sound.changeState hd (Window.disabledBy_consistent (h.inv.windows w) hd) s.windows[w].disabledBy_group.2

theorem State.Safe.suspendWindow {q : Prop} {s : State} (h : s.Safe q) (w : WindowId) : (s.suspendWindow w).2.Safe q := by
  obtain ⟨hsuspended, hrefused, hother⟩ := s.suspendWindow_eq w
  by_cases hs : s.windows[w].state = .suspended
  · rw [hsuspended hs]; exact h
  · by_cases hr : s.windows[w].state = .disabled ∨ s.windows[w].state = .homing
    · rw [hrefused hr]; exact h
    · have hd : s.windows[w].state ≠ .disabled := fun hd => hr (.inl hd)
      have hrest : s.windows[w].state = .seeding ∨ s.windows[w].state = .active ∨ s.windows[w].state = .faulted := by
        cases hx : s.windows[w].state <;> simp [hx, -Fin.getElem_fin] at hs hr ⊢
      rw [hother hrest]
      dsimp only
      exact h.sound.changeState hd (Window.suspendedBy_consistent (h.inv.windows w) hd) (by simp [Window.suspendedBy])

/-! ## Commits to a window (R5) -/

theorem State.Safe.commitRange {q : Prop} {s : State} (h : s.Safe q) {w : WindowId} {y : Window}
    (hy : y = { s.windows[w] with base := y.base, twin := y.twin, sizeCode := y.sizeCode }) : (s.commitRange w y).Safe q := by
  have hstate : y.state = s.windows[w].state := by rw [hy]
  have hconsistent (hstopped : s.windows[w].state = .disabled ∨ s.windows[w].state = .suspended)
      (hranges : s.windows[w].state = .suspended → y.rangesValid = true) : y.consistent :=
    Window.consistent_of_ranges (h.inv.windows w) (by rw [hy]) (by rw [hy]) hstate (by rw [hy]) (by rw [hy]) hstopped hranges
  obtain ⟨hdisabled, hinvalid, -⟩ := s.commitRange_eq w y
  cases hs : s.windows[w].state with
  | disabled =>
    have hnone {i : Fin 8} {u : Transfer} (hu : s.port.slots[i] = some u)
      := h.sound.noWrites (by rw [hs]; rfl) (by rw [hs]; simp) hu
    rw [hdisabled hs]
    have hsound : (s.setWindow w y).Sound q := h.sound.reconfigure (s.setWindow_changes w y) rfl rfl
      (hconsistent (.inl hs) fun hx => by rw [hs] at hx; cases hx) (.inl hs) hstate
      fun i u hu hunissued hwrite hw => absurd hw (hnone hu hunissued hwrite)
    refine hsound.safe ?_ h.inv.offered
    refine State.transfersTested_congr h.inv.transfers h.inv.pendingReads ⟨rfl, fun v => ?_, fun i u v hu hunissued hwrite hv => ?_⟩
      (f := id) (fun u => ⟨u.hold, rfl⟩) (fun i => by rw [Option.map_id]; rfl)
    · rw [State.setWindow_windows, vector_set_apply]
      split
      · subst_vars
        rw [hy]
        exact ⟨rfl, rfl, rfl, rfl⟩
      · exact .refl _
    · have hne : w ≠ v := fun hwv => hnone hu hunissued hwrite (hwv ▸ hv)
      rw [State.setWindow_windows, vector_set_apply, if_neg hne]
      exact ⟨rfl, rfl⟩
  | suspended =>
    by_cases hvalid : y.rangesValid = true
    · have hcommit : s.commitRange w y = s.settleRangeChange w s.windows[w] y := by
        simp only [State.commitRange, hs, hvalid, if_true]
      rw [hcommit]
      by_cases hsame : y = s.windows[w]
      · rw [State.settleRangeChange, if_pos hsame.symm]
        exact h
      · have hchange := s.changeSettled_changes w y (fun a => s.windows[w].inRanges a || y.inRanges a) .retry
        have hgroups := s.changeSettled_groups w y (fun a => s.windows[w].inRanges a || y.inRanges a) (st := .retry)
          (by decide)
        have hwrites (i : Fin 8) (u : Transfer) (hu : (s.changeSettled w y (fun a => s.windows[w].inRanges a || y.inRanges a)
            .retry).port.slots[i] = some u) :=
          h.sound.changeSettled_noWrites w y (p := fun a => s.windows[w].inRanges a || y.inRanges a)
            (fun a ha => by simp [Window.inRanges, ha, -Fin.getElem_fin]) .retry hu
        have hcarry : (s.changeSettled w y (fun a => s.windows[w].inRanges a || y.inRanges a) .retry).carry = s.carry := by
          rw [State.changeSettled, ((s.setWindow w y).settleWrites_frame _ _).1, State.setWindow_carry]
        rw [State.settleRangeChange_of_ne hsame]
        generalize s.changeSettled w y (fun a => s.windows[w].inRanges a || y.inRanges a) .retry = b at *
        exact (h.sound.reconfigure hchange hgroups hcarry (hconsistent (.inr hs) fun _ => hvalid) (.inr hs) hstate
          fun i u hu hunissued hwrite hw => absurd hw (hwrites i u hu hunissued hwrite)).settled
    · rw [hinvalid hs (Bool.eq_false_of_not_eq_true hvalid)]
      exact State.refuseWrite_safe h
  | _ =>
    have hcommit : s.commitRange w y = s.refuseWrite := by simp only [State.commitRange, hs]
    rw [hcommit]
    exact State.refuseWrite_safe h

/-- R5, R79: a commit to a stopped window's group or policy. -/
theorem State.Safe.commitMode {q : Prop} {s : State} (h : s.Safe q) {w : WindowId} {after : Option Window}
    (hy : ∀ y, after = some y → y = { s.windows[w] with group := y.group, policy := y.policy }) :
    (s.commitMode w after).Safe q := by
  by_cases htaken : (s.windows[w].state = .disabled ∨ s.windows[w].state = .suspended) ∧ after ≠ none
  · obtain ⟨hstopped, hafter⟩ := htaken
    obtain ⟨y, rfl⟩ := Option.ne_none_iff_exists'.1 hafter
    have hy := hy y rfl
    have hview : s.windows[w].WaitsAlike y ∧ y.base = s.windows[w].base ∧ y.twin = s.windows[w].twin := by
      rw [hy]
      exact ⟨⟨rfl, rfl, rfl, rfl⟩, rfl, rfl⟩
    have hstate : y.state = s.windows[w].state := by rw [hy]
    have hconsistent : y.consistent := by rw [hy]; exact h.inv.windows w
    have hwindow (v : WindowId) : (s.windows.set w y)[v] = s.windows[v] ∨ v = w ∧ (s.windows.set w y)[v] = y := by
      rw [vector_set_apply]
      split
      · exact .inr ⟨Eq.symm ‹_›, rfl⟩
      · exact .inl rfl
    rw [State.commitMode_taken hstopped]
    have hsound : (s.setWindow w y).Sound q := by
      refine h.sound.reconfigure (s.setWindow_changes w y) rfl rfl hconsistent hstopped hstate
        fun i u hu hunissued hwrite hw => ?_
      obtain ⟨hread, hcounted, hnone, hsome⟩ := h.inv.pendingWrites i u hu hunissued hwrite
      refine ⟨hread, hcounted, hnone, fun v hv => ?_⟩
      have hold := hsome v hv
      rw [State.setWindow_windows]
      obtain hsame | ⟨rfl, hnew⟩ := hwindow v
      · rw [hsame]; exact hold
      · rw [hnew, hy]; exact hold
    have hport : (s.setWindow w y).testRollbacks.port = s.port := by
      simp only [State.testRollbacks_frame, State.setWindow_port]
    have hpins : (s.setWindow w y).testRollbacks.pins = s.pins := by
      simp only [State.testRollbacks_frame, State.setWindow_pins]
    refine hsound.testRollbacks.safe ?_ ?_
    · refine State.transfersTested_congr h.inv.transfers h.inv.pendingReads ⟨?_, fun v => ?_, fun i u v _ _ _ _ => ?_⟩
        (f := id) (fun u => ⟨u.hold, rfl⟩) (fun i => by rw [Option.map_id, hport]; rfl)
      · simp only [State.testRollbacks_frame, State.setWindow_carry]
      · simp only [State.testRollbacks_frame, State.setWindow_windows]
        obtain hsame | ⟨rfl, hnew⟩ := hwindow v
        · rw [hsame]; exact .refl _
        · rw [hnew]; exact hview.1
      · simp only [State.testRollbacks_frame, State.setWindow_windows]
        obtain hsame | ⟨rfl, hnew⟩ := hwindow v
        · rw [hsame]; exact ⟨rfl, rfl⟩
        · rw [hnew]; exact hview.2
    · exact State.offeredOnlyWhenClosed_congr h.inv.offered (fun hh => by rwa [State.resetHeld, hpins]) (by rw [hport])
        fun i hi => by rw [hport]; exact hi
  · rw [State.commitMode_refused (by tauto)]
    exact State.refuseWrite_safe h

/-! ## Groups (R60, R65, R81) -/

/-- The promises after an event that changes only groups, none of which enters or leaves BLOCKED, while no boot load is in
progress. -/
theorem State.Safe.withGroups {q : Prop} {s t : State} (h : s.Safe q) (hsame : t = s.withGroups t.groups)
    (hgroups : ∀ g : GroupId, t.groups[g].state = .blocked ↔ s.groups[g].state = .blocked)
    (hasleep : s.Asleep → s.bootInProgress = true ∨ s.pins.pwrupLow = true → ∀ g : GroupId, t.groups[g].state = .opened) :
    t.Safe q := by
  have hf : s.Follows t := by rw [hsame]; exact .of_blocks rfl rfl rfl rfl rfl
  refine (h.sound.follow_counts hf (fun w => ?_) hgroups fun hs hsleep => hasleep hsleep hs).safe ?_ ?_
  · rw [hsame]; exact s.windows[w].withCounts_self
  · rw [hsame]
    exact State.transfersTested_of_blocks h.inv.transfers h.inv.pendingReads rfl rfl rfl
  · rw [hsame]
    exact h.inv.offered

/-- R60: an arming request; ARM_REFUSED is its only record. -/
theorem State.Safe.arm {q : Prop} {s : State} (h : s.Safe q) (hawake : s.Awake) (g : GroupId) (m : Option MasterId) :
    (s.arm g m).Safe q := by
  have hrecord (a : State) (ha : a.Safe q) (r : EventRecord) : (a.record r).Safe q :=
    ha.of_blocks rfl rfl rfl ⟨rfl, rfl⟩ rfl rfl id
  have hblocked := s.arm_blocked g m
  cases hs : s.groups[g].state with
  | opened =>
    simp only [State.arm, hs] at hblocked ⊢
    exact h.withGroups rfl hblocked fun _ hq => absurd hq hawake.not_quiet
  | armed n late => simpa only [State.arm, hs] using h
  | blocked =>
    simp only [State.arm, hs]
    exact hrecord s h _

theorem State.publishGroup_state (s : State) (g : GroupId) : (s.publishGroup g).2 = s.arm g none := by
  unfold State.publishGroup
  split <;> rfl

theorem State.Safe.setGroup {q : Prop} {s : State} (h : s.Safe q) {g : GroupId} {x : Group}
    (hblocked : x.state = .blocked ↔ s.groups[g].state = .blocked)
    (hopened : s.groups[g].state = .opened → x.state = .opened) : (s.setGroup g x).Safe q := by
  refine h.withGroups rfl (fun k => ?_) fun hsleep _ k => ?_
  · rw [State.setGroup_groups, vector_set_apply]
    split
    · subst_vars; exact hblocked
    · rfl
  · rw [State.setGroup_groups, vector_set_apply]
    split
    · subst_vars; exact hopened (hsleep.groups _)
    · exact hsleep.groups k

theorem State.Safe.commitGroup {q : Prop} {s : State} (h : s.Safe q) {g : GroupId} {after : Option Group}
    (hstate : ∀ x, after = some x → x.state = s.groups[g].state) : (s.commitGroup g after).Safe q := by
  by_cases hrefused : after = none ∨ s.groups[g].state ≠ .opened
  · rw [State.commitGroup_refused hrefused]
    exact State.refuseWrite_safe h
  · obtain ⟨hafter, hopened⟩ := not_or.1 hrefused
    obtain ⟨x, rfl⟩ := Option.ne_none_iff_exists'.1 hafter
    rw [State.commitGroup_taken (not_not.1 hopened)]
    exact h.setGroup (by rw [hstate x rfl]) fun ho => (hstate x rfl).trans ho

theorem State.Safe.writeHold {q : Prop} {s : State} (h : s.Safe q) (g : GroupId) (hold : Bool) :
    (s.writeHold g hold).Safe q := by
  unfold State.writeHold
  dsimp only
  split
  · exact h.setGroup Iff.rfl id
  · split
    · split
      next n late hs => exact h.setGroup (by simp [hs, -Fin.getElem_fin]) fun ho => by rw [hs] at ho; cases ho
      next => exact h.setGroup Iff.rfl id
      next => exact h.setGroup Iff.rfl id
    · exact h

/-! ## Boundaries (R67, R71) -/

theorem Group.afterBoundary_blocked (x : Group) (passes : Bool) (n : Epoch) :
    (x.afterBoundary passes n).state = .blocked ↔ x.state = .blocked := by
  unfold Group.afterBoundary
  cases hs : x.state with
  | opened => simp [hs]
  | blocked => simp [hs]
  | armed c late =>
    dsimp only
    split
    · simp
    · cases c
      · cases passes <;> simp
      · simp

/-- R29: the record of a window that flips. -/
theorem Window.flipped_consistent {x : Window} (h : x.consistent) (hstate : x.state = .active) (n : Epoch) : (x.flipped n).consistent := by
  obtain ⟨-, hrange, -, -, hfault, -, hranges⟩ := h
  refine Window.consistent_of_clean rfl (fun l hl => hrange l (List.mem_append_left _ hl)) (by simp [Window.flipped]) ?_ (by simp [Window.flipped])
    fun _ => hranges (by rw [hstate]; simp)
  rw [Window.faultMatchesState] at hfault ⊢
  simpa [Window.flipped, hstate] using hfault

theorem State.Sound.takeBoundary {q : Prop} {s : State} (h : s.Sound q) (g : GroupId) (n : Epoch) :
    (s.takeBoundary g n).Sound q := by
  obtain ⟨hgroups, hwindows⟩ := s.takeBoundary_blocks g n
  have hf : s.Follows (s.takeBoundary g n) := by apply State.Follows.of_blocks <;> simp only [State.takeBoundary_frame]
  have hport : (s.takeBoundary g n).port = s.port := by simp only [State.takeBoundary_frame]
  have hcarry : (s.takeBoundary g n).carry = s.carry := by simp only [State.takeBoundary_frame]
  generalize s.takeBoundary g n = t at *
  have hblocked (k : GroupId) : t.groups[k].state = .blocked ↔ s.groups[k].state = .blocked := by
    rw [hgroups, vector_set_apply]
    split
    · subst_vars; exact Group.afterBoundary_blocked _ _ _
    · rfl
  have hwindow (w : WindowId) : t.windows[w] = s.windows[w] ∨
      (s.windows[w].state = .active ∧ s.windows[w].carry = []) ∧ t.windows[w] = s.windows[w].flipped n := by
    rw [hwindows]
    split
    next hflips =>
      have hpasses : s.gatePasses g = true := by
        unfold Group.flipsAtBoundary at hflips
        split at hflips
        · cases hflips
        · cases hflips
        · split at hflips
          · cases hflips
          · split at hflips
            · cases hflips
            · exact hflips
      rw [State.flipMembers_window]
      split
      · exact .inr ⟨State.active_of_gatePasses hpasses ‹_›, rfl⟩
      · exact .inl rfl
    next => exact .inl rfl
  refine h.follow hf (fun w => ?_) ?_ fun _ hsleep => ⟨fun w => ?_, fun k => ?_⟩
  · obtain hsame | ⟨⟨hstate, hempty⟩, hflipped⟩ := hwindow w
    · rw [hsame]
      exact .inl s.windows[w].withCounts_self
    · refine .inr ⟨hflipped ▸ Window.flipped_consistent (h.windows w) hstate n, ⟨fun i u hu hunissued hwrite hw => ?_,
        fun c k hk howned hw => ?_⟩⟩
      · rw [hport] at hu
        obtain ⟨hread, hcounted, hnone, hsome⟩ := h.pendingWrites i u hu hunissued hwrite
        refine ⟨hread, hcounted, hnone, fun v hv => ?_⟩
        obtain rfl : w = v := by rw [hw] at hv; exact Option.some.inj hv
        obtain ⟨hhome, hpass, hlive, htwo⟩ := hsome w hv
        rw [hflipped]
        exact ⟨hhome, hpass, fun hr => absurd ((hlive hr).symm.trans hstate) (by decide), fun _ => rfl⟩
      · rw [hcarry] at hk
        obtain ⟨-, hline, -⟩ := (h.workFits w).copies c k hk howned hw
        rw [hempty] at hline
        cases hline
  · refine State.blockedMatchesFaults_congr h.groups hblocked fun w => ?_
    obtain hsame | ⟨⟨hstate, -⟩, hflipped⟩ := hwindow w
    · rw [hsame]; exact ⟨Iff.rfl, fun _ => rfl⟩
    · rw [hflipped, hstate]
      exact ⟨by simp [Window.flipped], fun _ => rfl⟩
  · obtain hsame | ⟨⟨hstate, -⟩, -⟩ := hwindow w
    · rw [hsame]; exact hsleep.windows w
    · rw [hsleep.windows w] at hstate; cases hstate
  · rw [hgroups, vector_set_apply]
    split
    · subst_vars
      simp only [Group.afterBoundary, hsleep.groups]
    · exact hsleep.groups k

theorem State.Sound.boundaryAtGroups {q : Prop} {s : State} (h : s.Sound q) (e : SourceId) (n : Epoch) :
    (s.boundaryAtGroups e n).Sound q := by
  refine foldl_keeps (fun a : State => a.Sound q) _ (fun a g ha => ?_) _ s h
  unfold State.boundaryAtGroup
  split
  · exact ha.takeBoundary g n
  · exact ha

theorem State.Safe.boundaryOf {q : Prop} {s : State} (h : s.Safe q) (e : SourceId) : (s.boundaryOf e).Safe q := by
  have hsource : (s.setSource e s.timing.sources[e].atBoundary).Sound q :=
    h.sound.follow_same (.of_blocks rfl rfl rfl rfl rfl) rfl rfl
  refine (hsource.boundaryAtGroups e s.timing.sources[e].atBoundary.counter).retest_safe ?_
  have hport : ((s.setSource e s.timing.sources[e].atBoundary).boundaryAtGroups e
      s.timing.sources[e].atBoundary.counter).port = s.port := by
    simp only [State.boundaryAtGroups_frame]
    rfl
  have hpins : ((s.setSource e s.timing.sources[e].atBoundary).boundaryAtGroups e
      s.timing.sources[e].atBoundary.counter).pins = s.pins := by
    simp only [State.boundaryAtGroups_frame]
    rfl
  exact State.offeredOnlyWhenClosed_congr h.inv.offered (fun hh => by rwa [State.resetHeld, hpins]) (by rw [hport])
    fun i hi => by rw [hport]; exact hi

/-! ## ROLLBACK (R78, R54) -/

/-- R54: the record of a window of a rolled-back group. -/
theorem Window.rolledBack_cases (x : Window) : x.rolledBack = x ∨ x.state.servesTwo = true ∧
    x.rolledBack = { x with carry := LineSet.union x.dirty x.carry, dirty := [] } := by
  unfold Window.rolledBack
  split
  · exact .inr ⟨‹_›, rfl⟩
  · exact .inl rfl

theorem Window.consistent_of_rollback {x : Window} (h : x.consistent) (hstate : x.state.servesTwo = true) :
    ({ x with carry := LineSet.union x.dirty x.carry, dirty := [] } : Window).consistent := by
  obtain ⟨-, hrange, -, -, hfault, hlive, hranges⟩ := h
  refine Window.consistent_of_clean rfl (fun l hl => hrange l ?_) (fun hs => ?_) hfault hlive hranges
  · exact List.mem_append.2 ((LineSet.mem_union l _ _).1 hl)
  · dsimp only at hs
    obtain hs | hs | hs := hs <;> rw [hs] at hstate <;> cases hstate

theorem State.rollBackMembers_cases (s : State) (g : GroupId) (w : WindowId) :
    (s.rollBackMembers g).windows[w] = s.windows[w] ∨ s.windows[w].state.servesTwo = true ∧
      (s.rollBackMembers g).windows[w] =
        { s.windows[w] with carry := LineSet.union s.windows[w].dirty s.windows[w].carry, dirty := [] } := by
  simp only [State.rollBackMembers, State.withWindows_windows, mapTable_getElem_fin]
  split
  · exact s.windows[w].rolledBack_cases
  · exact .inl rfl

theorem State.dropArming_rest (s : State) (g : GroupId) : (s.dropArming g).startUp = s.startUp ∧
    (s.dropArming g).pins = s.pins ∧ (s.dropArming g).link = s.link := by
  unfold State.dropArming
  split <;> exact ⟨rfl, rfl, rfl⟩

theorem State.rolledBack_frame (s : State) (g : GroupId) : (s.rolledBack g).startUp = s.startUp ∧
    (s.rolledBack g).pins = s.pins ∧ (s.rolledBack g).link = s.link := by
  have hdrop := (s.rollBackMembers g).dropArming_rest g
  rw [State.rolledBack]
  exact hdrop

theorem State.Sound.rolledBack {q : Prop} {s : State} (h : s.Sound q) (g : GroupId) : (s.rolledBack g).Sound q := by
  obtain ⟨hwindows, hcarry, hport, hgroups, -⟩ := s.rolledBack_blocks g
  obtain ⟨hstartUp, hpins, hlink⟩ := s.rolledBack_frame g
  have hwindow := s.rollBackMembers_cases g
  have hf : s.Follows (s.rolledBack g) := by
    apply State.Follows.of_blocks
    · rw [hport]
    · rw [hcarry]
    · exact hstartUp
    · exact hpins
    · exact hlink
  generalize s.rolledBack g = t at *
  rw [← hwindows] at hwindow
  refine h.follow hf (fun w => ?_) ?_ fun _ hsleep => ⟨fun w => ?_, fun k => ?_⟩
  · obtain hsame | ⟨hstate, hback⟩ := hwindow w
    · rw [hsame]
      exact .inl s.windows[w].withCounts_self
    · refine .inr ⟨hback ▸ Window.consistent_of_rollback (h.windows w) hstate, ⟨fun i u hu hunissued hwrite hw => ?_,
        fun c k hk howned hw => ?_⟩⟩
      · rw [hport] at hu
        obtain ⟨hread, hcounted, hnone, hsome⟩ := h.pendingWrites i u hu hunissued hwrite
        refine ⟨hread, hcounted, hnone, fun v hv => ?_⟩
        obtain rfl : w = v := by rw [hw] at hv; exact Option.some.inj hv
        rw [hback]
        exact hsome w hv
      · rw [hcarry] at hk
        obtain ⟨hcopies, hline, hplaces⟩ := (h.workFits w).copies c k hk howned hw
        rw [hback]
        exact ⟨hcopies, (LineSet.mem_union _ _ _).2 (.inr hline), hplaces⟩
  · refine State.blockedMatchesFaults_congr h.groups (fun k => ?_) fun w => ?_
    · rw [hgroups, vector_set_apply]
      split
      · subst_vars
        cases s.groups[k].state <;> simp [GroupState.isArmed]
      · rfl
    · obtain hsame | ⟨-, hback⟩ := hwindow w
      · rw [hsame]; exact ⟨Iff.rfl, fun _ => rfl⟩
      · rw [hback]; exact ⟨Iff.rfl, fun _ => rfl⟩
  · obtain hsame | ⟨-, hback⟩ := hwindow w
    · rw [hsame]; exact hsleep.windows w
    · rw [hback]; exact hsleep.windows w
  · rw [hgroups, vector_set_apply]
    split
    · subst_vars
      simp [hsleep.groups, GroupState.isArmed, -Fin.getElem_fin]
    · exact hsleep.groups k

theorem State.Safe.rollbackGroup {q : Prop} {s : State} (h : s.Safe q) (g : GroupId) : (s.rollbackGroup g).Safe q := by
  rw [State.rollbackGroup_eq]
  have hport : (s.rolledBack g).testRollbacks.port = s.port := by
    rw [(s.rolledBack g).testRollbacks_frame.2.2.2.1, (s.rolledBack_blocks g).2.2.1]
  have hheld : s.resetHeld = true → (s.rolledBack g).testRollbacks.resetHeld = true := by
    have hpins : (s.rolledBack g).testRollbacks.pins = s.pins := by
      simp only [State.testRollbacks_frame, (s.rolledBack_frame g).2.1]
    intro hh
    rwa [State.resetHeld, hpins]
  exact (h.sound.rolledBack g).testRollbacks.retest_safe (State.offeredOnlyWhenClosed_congr h.inv.offered hheld
    (by rw [hport]) fun i hi => by rw [hport]; exact hi)

end Sys2Proof.Machine
end

section
/-! What the carry engine and the issue of writes keep of the promises of `State.Inv` (R13, R25, R41 to R49, R52). -/

namespace Sys2Proof.Machine

open Sys2Proof

/-! ## Lines and addresses (R2) -/

/-- Terms: the line of an address, as a number. -/
theorem lineOfAddress_toNat (a : Address) : (lineOfAddress a).toNat = a.toNat / 64 * 64 := by
  have hmask : ∀ i : Fin 32, (0xFFFFFFC0 : Address).getLsbD i = decide (6 ≤ i.val) := by decide
  have hshift : lineOfAddress a = (a >>> 6) <<< 6 := by
    refine BitVec.eq_of_getLsbD_eq fun i hi => ?_
    have hbit := hmask ⟨i, hi⟩
    simp only at hbit
    simp only [lineOfAddress, BitVec.getLsbD_and, hbit, BitVec.getLsbD_shiftLeft, BitVec.getLsbD_ushiftRight, hi,
      decide_true, Bool.true_and]
    by_cases h6 : 6 ≤ i
    · simp [h6, Nat.not_lt.2 h6]
    · simp [h6, Nat.lt_of_not_le h6]
  rw [hshift, BitVec.toNat_shiftLeft, BitVec.toNat_ushiftRight, Nat.shiftRight_eq_div_pow, Nat.shiftLeft_eq]
  have ha := a.isLt
  omega

/-- R5, R23: the bases of a window with valid ranges are at line starts. -/
theorem Window.bankBase_aligned {x : Window} (h : x.rangesValid = true) (b : Bank) : (x.bankBase b).toNat % 64 = 0 := by
  simp only [Window.rangesValid, Window.sizeCodeValid, Window.basesAligned, Bool.and_eq_true, decide_eq_true_iff] at h
  obtain ⟨⟨⟨hlow, -⟩, hbase, htwin⟩, -⟩ := h
  have hline : (64 : Nat) ∣ 2 ^ x.sizeCode.toNat := pow_dvd_pow 2 (show 6 ≤ x.sizeCode.toNat by omega)
  cases b with
  | bank0 => exact Nat.mod_eq_zero_of_dvd (hline.trans (Nat.dvd_of_mod_eq_zero hbase))
  | bank1 => exact Nat.mod_eq_zero_of_dvd (hline.trans (Nat.dvd_of_mod_eq_zero htwin))

/-- R2, R9: the line of an address's copy is the copy of the address's line. -/
theorem Window.lineOfAddress_copyAddress {x : Window} (h : x.rangesValid = true) (b : Bank) (a : Address) :
    lineOfAddress (x.copyAddress b a) = x.lineAddress b (x.lineIndex a) := by
  have haligned := x.bankBase_aligned h b
  refine BitVec.eq_of_toNat_eq ?_
  rw [lineOfAddress_toNat]
  simp only [Window.copyAddress, Window.lineAddress, Window.lineIndex, BitVec.toNat_add, BitVec.toNat_ofNat]
  generalize a - x.base = d
  have hb := (x.bankBase b).isLt
  have hd := d.isLt
  omega

/-- R2: the line index of a home address is a line of the window. -/
theorem Window.lineIndex_lt {x : Window} (h : x.rangesValid = true) {a : Address} (ha : x.inHome a = true) :
    x.lineIndex a < x.lines := by
  simp only [Window.rangesValid, Window.sizeCodeValid, Bool.and_eq_true, decide_eq_true_iff] at h
  obtain ⟨⟨⟨hlow, -⟩, -⟩, -⟩ := h
  simp only [Window.inHome, inRange, Bool.and_eq_true, decide_eq_true_iff] at ha
  have hsize : x.size = 64 * 2 ^ (x.sizeCode.toNat - 6) := by
    rw [Window.size, show (64 : Nat) = 2 ^ 6 from rfl, ← pow_add]
    congr 1
    omega
  rw [hsize] at ha
  have hsub : (a - x.base).toNat = a.toNat - x.base.toNat := BitVec.toNat_sub_of_le (BitVec.le_def.2 ha.1)
  rw [Window.lineIndex, Window.lines, hsub]
  omega

/-! ## A window whose sets change (R13, R25, R46) -/

/-- The promises where one window takes other sets of lines, its carry set still holding the lines of its owned copies. -/
theorem State.Sound.restage {q : Prop} {s : State} (h : s.Sound q) {w : WindowId} {y : Window} (hy : y.consistent)
    (hyx : y = { s.windows[w] with dirty := y.dirty, carry := y.carry }) (hstate : s.windows[w].state ≠ .disabled)
    (hcopies : ∀ c : Fin 2, ∀ k, s.carry.copiers[c] = .busy k → k.owned = true → k.window = w → k.line ∈ y.carry) :
    (s.setWindow w y).Sound q := by
  have hset : (s.setWindow w y).windows[w] = y := by rw [State.setWindow_windows, vector_set_self]
  have hother {v : WindowId} (hv : v ≠ w) : (s.setWindow w y).windows[v] = s.windows[v] := by
    rw [State.setWindow_windows, vector_set_apply, if_neg (Ne.symm hv)]
  refine h.change (s.setWindow_changes w y) hy ⟨fun i u hu hunissued hwrite hw => ?_, fun c k hk howned hw => ?_⟩ ?_
    fun _ hsleep => hstate (hsleep.windows w)
  · obtain ⟨hread, hcounted, hnone, hsome⟩ := h.pendingWrites i u hu hunissued hwrite
    refine ⟨hread, hcounted, hnone, fun v hv => ?_⟩
    obtain rfl : w = v := by rw [hw] at hv; exact Option.some.inj hv
    rw [hset, hyx]
    exact hsome w hv
  · obtain ⟨hcopied, -, hsource, hdestination⟩ := (h.workFits w).copies c k hk howned hw
    have hline := hcopies c k hk howned hw
    rw [hset]
    refine ⟨?_, hline, ?_, ?_⟩
    · rw [hyx]; exact hcopied
    · rw [hyx]; exact hsource
    · rw [hyx]; exact hdestination
  · refine State.blockedMatchesFaults_congr h.groups (fun g => Iff.rfl) fun v => ?_
    by_cases hv : v = w
    · subst hv
      rw [hset, hyx]
      exact ⟨Iff.rfl, fun _ => rfl⟩
    · rw [hother hv]
      exact ⟨Iff.rfl, fun _ => rfl⟩

/-- R25: the promises where SEEDING or HOMING ends with the carry set. -/
theorem State.Sound.endCarry {q : Prop} {s : State} (h : s.Sound q) (w : WindowId) : (s.endCarry w).Sound q := by
  by_cases hends : s.windows[w].carry = [] ∧ (s.windows[w].state = .seeding ∨ s.windows[w].state = .homing)
  case neg =>
    have hne : s.endCarry w = s := State.endCarry_of_ne (by
      by_cases hc : s.windows[w].carry = []
      · exact .inr (not_or.1 fun hs => hends ⟨hc, hs⟩)
      · exact .inl hc)
    rw [hne]
    exact h
  obtain ⟨hcarry, hstate⟩ := hends
  have hdisabled : s.windows[w].state ≠ .disabled := by
    obtain hs | hs := hstate <;> rw [hs] <;> simp
  obtain ⟨hdisjoint, hrange, -, hclean, hfault, -, hranges⟩ := h.windows w
  have hnofault : s.windows[w].faultAddress = none := by
    have hnot : ¬ s.windows[w].faultAddress.isSome = true := fun hf => by
      have := hfault.1 hf
      obtain hs | hs := hstate <;> rw [hs] at this <;> cases this
    simpa using hnot
  have hnocopy (c : Fin 2) (k : CopyRecord) (hk : s.carry.copiers[c] = .busy k) (howned : k.owned = true) :
      k.window ≠ w := fun hw => by
    obtain ⟨-, hline, -⟩ := (h.workFits w).copies c k hk howned hw
    rw [hcarry] at hline
    cases hline
  have hchanged (y : Window) (hy : y.consistent) (hyg : y.group = s.windows[w].group) (hyf : y.state ≠ .faulted)
      (hfit : (s.setWindow w y).WorkFits w) (r : EventRecord) : ((s.setWindow w y).record r).Sound q := by
    refine ((s.setWindow w y).record_sameWork r).sound (h.change (s.setWindow_changes w y) hy hfit ?_ fun _ hsleep =>
      hdisabled (hsleep.windows w))
    have hf : s.windows[w].state ≠ .faulted := by
      obtain hs | hs := hstate <;> rw [hs] <;> simp
    refine State.blockedMatchesFaults_congr h.groups (fun g => Iff.rfl) fun v => ?_
    rw [State.setWindow_windows, vector_set_apply]
    split
    · subst_vars
      exact ⟨⟨fun hh => absurd hh hyf, fun hh => absurd hh hf⟩, fun _ => hyg⟩
    · exact ⟨Iff.rfl, fun _ => rfl⟩
  obtain hs | hs := hstate
  · rw [State.endCarry_of_seeding hcarry hs]
    refine hchanged { s.windows[w] with state := .active } ⟨hdisjoint, hrange, ?_, ?_, ?_, ?_, fun _ => hranges hdisabled⟩ rfl (by simp)
      ⟨fun i u hu hunissued hwrite hw => ?_, fun c k hk howned hw => absurd hw (hnocopy c k hk howned)⟩ _
    · simp [Window.setsMatchState]
    · simp [Window.homingClean]
    · simp [Window.faultMatchesState, hnofault, -Fin.getElem_fin]
    · simp [Window.disabledLive]
    · obtain ⟨hread, hcounted, hnone, hsome⟩ := h.pendingWrites i u hu hunissued hwrite
      refine ⟨hread, hcounted, hnone, fun v hv => ?_⟩
      obtain rfl : w = v := by rw [hw] at hv; exact Option.some.inj hv
      obtain ⟨hhome, hpass, hlive, -⟩ := hsome w hv
      rw [State.setWindow_windows, vector_set_self]
      exact ⟨hhome, hpass, fun hr => absurd ((hlive hr).symm.trans hs) (by decide), fun _ => rfl⟩
  · rw [State.endCarry_of_homing hcarry hs]
    refine hchanged { s.windows[w] with state := .disabled, live := .bank0 } (Window.consistent_of_clean (hclean hs) ?_ ?_ ?_ ?_ ?_) rfl (by simp)
      (.of_none (fun i u hu => h.noWrites (by rw [hs]; rfl) (by rw [hs]; simp) hu) hnocopy) _
    · simp [hcarry, -Fin.getElem_fin]
    · simp [hcarry, -Fin.getElem_fin]
    · simp [Window.faultMatchesState, hnofault, -Fin.getElem_fin]
    · simp [Window.disabledLive]
    · simp

/-- R25, R46, R52, R79: the promises where a line that no owned copy is of leaves the carry set. -/
theorem State.Sound.lineLeaves {q : Prop} {s : State} (h : s.Sound q) {w : WindowId} {y : Window} {line : Nat}
    (hy : y.consistent) (hyx : y = { s.windows[w] with dirty := y.dirty, carry := LineSet.remove line s.windows[w].carry })
    (hstate : s.windows[w].state ≠ .disabled)
    (hcopies : ∀ c : Fin 2, ∀ k, s.carry.copiers[c] = .busy k → k.owned = true → k.window = w → k.line ≠ line) :
    (s.lineLeaves w y line).Sound q := by
  have hcarry : y.carry = LineSet.remove line s.windows[w].carry := by rw [hyx]
  have hset : (s.setWindow w y).Sound q := by
    refine h.restage hy (hyx.trans (by rw [hcarry])) hstate fun c k hk howned hw => ?_
    rw [hcarry, LineSet.mem_remove]
    exact ⟨((h.workFits w).copies c k hk howned hw).2.1, hcopies c k hk howned hw⟩
  have hdropped : ((s.setWindow w y).dropEntry w line).Sound q := by
    refine hset.follow_same ?_ (by simp) (by simp)
    apply State.Follows.of_blocks <;> simp only [State.dropEntry_frame]
  exact (hdropped.endCarry w).testRollbacks

/-! ## The end of a copy (R45 to R48) -/

theorem State.setCopier_copier (s : State) (c d : Fin 2) (x : Copier) :
    (s.setCopier c x).carry.copiers[d] = if c = d then x else s.carry.copiers[d] :=
  vector_set_apply s.carry.copiers c d x

theorem State.setCopier_follows {s : State} {c : Fin 2} {x : Copier}
    (h : ∀ k, x = .busy k → ∃ j, s.carry.copiers[c] = .busy j ∧ j.Becomes k) : s.Follows (s.setCopier c x) where
  slots i u hu := ⟨u, hu, .refl u⟩
  copiers d k hk := by
    rw [State.setCopier_copier] at hk
    split at hk
    · subst_vars; exact h k rfl
    · exact ⟨k, hk, .refl k⟩
  boot := id
  pwrup := id
  held := id
  frame _ := id

theorem State.Sound.freeCopier {q : Prop} {s : State} (h : s.Sound q) (c : Fin 2) : (s.freeCopier c).Sound q :=
  h.follow_same (State.setCopier_follows fun k hk => by cases hk) rfl rfl

/-- R41: two owned copies in flight are not of the same line. -/
theorem State.Sound.copy_line_ne {q : Prop} {s : State} (h : s.Sound q) {c d : Fin 2} (hcd : c ≠ d) {k j : CopyRecord}
    (hk : s.carry.copiers[c] = .busy k) (hj : s.carry.copiers[d] = .busy j) (hkowned : k.owned = true)
    (hjowned : j.owned = true) (hwindow : j.window = k.window) : j.line ≠ k.line := by
  intro hline
  obtain ⟨-, -, hksource, -⟩ := (h.workFits k.window).copies c k hk hkowned rfl
  obtain ⟨-, -, hjsource, -⟩ := (h.workFits k.window).copies d j hj hjowned hwindow
  rw [hline, ← hksource] at hjsource
  exact (h.copiers c d hcd k (Copier.mem_record?.2 hk) j (Copier.mem_record?.2 hj)).1 hjsource.symm

theorem Window.consistent_of_remove {x : Window} (h : x.consistent) (line : Nat) :
    ({ x with carry := LineSet.remove line x.carry } : Window).consistent := by
  obtain ⟨hdisjoint, hrange, hmatch, hclean, hfault, hlive, hranges⟩ := h
  have hkept {l : Nat} (hl : l ∈ LineSet.remove line x.carry) : l ∈ x.carry := ((LineSet.mem_remove _ _ _).1 hl).1
  refine ⟨fun l hl hr => hdisjoint l hl (hkept hr), fun l hl => hrange l ?_, fun hs => ⟨(hmatch hs).1, ?_⟩, hclean, hfault,
    hlive, hranges⟩
  · exact List.mem_append.2 ((List.mem_append.1 hl).imp id hkept)
  · dsimp only
    rw [(hmatch hs).2]
    rfl

/-- R46: the promises where an owned copy has ended. -/
theorem State.Sound.lineCopied {q : Prop} {s : State} (h : s.Sound q) {c : Fin 2} {k : CopyRecord}
    (hk : s.carry.copiers[c] = .busy k) (howned : k.owned = true) :
    ((s.freeCopier c).lineCopied k.window k.line).Sound q := by
  obtain ⟨hcopies, -, -, -⟩ := (h.workFits k.window).copies c k hk howned rfl
  have hdisabled : s.windows[k.window].state ≠ .disabled := fun hd => by rw [hd] at hcopies; cases hcopies
  rw [State.lineCopied_eq]
  refine (h.freeCopier c).lineLeaves (w := k.window) (Window.consistent_of_remove (h.windows k.window) k.line) rfl
    hdisabled fun d j hj hjowned hw => ?_
  · have hcd : c ≠ d := by
      rintro rfl
      rw [State.freeCopier, State.setCopier_copier, if_pos rfl] at hj
      cases hj
    have hj' : s.carry.copiers[d] = .busy j := by
      rwa [State.freeCopier, State.setCopier_copier, if_neg hcd] at hj
    exact h.copy_line_ne hcd hk hj' howned hjowned hw

theorem State.Sound.copyResult {q : Prop} {s : State} (h : s.Sound q) (c : Fin 2) (ok : Bool) (data : List Beat) :
    (s.copyResult c ok data).Sound q := by
  cases hk : s.carry.copiers[c] with
  | idle => simpa only [State.copyResult, hk] using h
  | busy k =>
    cases howned : k.owned with
    | false =>
      rw [State.copyResult_of_disowned hk howned]
      exact h.freeCopier c
    | true =>
      cases ok with
      | true =>
        rw [State.copyResult_of_okay hk howned, State.copyOkay]
        split
        · refine h.follow_same (State.setCopier_follows fun k' hk' => ⟨k, hk, ?_⟩) rfl rfl
          cases hk'
          exact ⟨rfl, rfl, rfl, rfl, id⟩
        · exact h.lineCopied hk howned
      | false =>
        rw [State.copyResult_of_error hk howned]
        obtain ⟨hcopies, -⟩ := (h.workFits k.window).copies c k hk howned rfl
        exact (h.freeCopier c).faultWindow (fun hd => by
          have hd' : s.windows[k.window].state = .disabled := hd
          rw [hd'] at hcopies
          cases hcopies) _

/-! ## The take of a line (R42, R43) -/

theorem State.candidate_of_firstCandidate {s : State} {w : WindowId} {line : Nat} {o : CopyOrigin}
    (h : s.firstCandidate = some (w, line, o)) : s.candidate w line = true := by
  have hbackground {u : Bool} (hb : s.backgroundCandidate u = some (w, line)) : s.candidate w line = true := by
    obtain ⟨v, -, hv⟩ := List.exists_of_findSome?_eq_some hb
    obtain ⟨x, hx, heq⟩ := Option.map_eq_some_iff.1 hv
    cases heq
    exact List.find?_some hx
  cases o with
  | demand =>
    have hfound := State.demandCandidate_some.1 (State.firstCandidate_demand.1 h)
    exact List.find?_some (p := fun d : DemandEntry => s.candidate d.window d.line) hfound
  | background =>
    obtain ⟨-, hb | ⟨-, hb⟩⟩ := State.firstCandidate_background.1 h
    · exact hbackground hb
    · exact hbackground hb

/-- R41, R43, R49: the promises where a copier takes a candidate line. -/
theorem State.Sound.take {q : Prop} {s t : State} (h : s.Sound q) {c : Fin 2} {w : WindowId} {line : Nat}
    {o : CopyOrigin} (hcandidate : s.candidate w line = true)
    (hcopiers : t.carry.copiers = s.carry.copiers.set c (.busy (s.copyOf w line o))) (hwindows : t.windows = s.windows)
    (hgroups : t.groups = s.groups) (hport : t.port = s.port) (hstartUp : t.startUp = s.startUp) (hpins : t.pins = s.pins)
    (hlink : t.link = s.link) : t.Sound q := by
  obtain ⟨hcopied, hline, hfree⟩ := (s.candidate_iff w line).1 hcandidate
  obtain ⟨hoff, hquiet, -⟩ := (s.lineFree_iff w line).1 hfree
  have hlive := hoff _ (List.mem_cons_self ..)
  have hshadow := hoff (s.windows[w].lineAddress s.windows[w].shadow line) (by simp [Window.physicalCopies])
  have hliveQuiet := hquiet _ (List.mem_cons_self ..)
  have hshadowQuiet := hquiet (s.windows[w].lineAddress s.windows[w].shadow line) (by simp [Window.physicalCopies])
  rw [State.copyOn_eq_false] at hlive hshadow
  rw [State.writeInFlightOn_eq_false] at hliveQuiet hshadowQuiet
  have hcopier (d : Fin 2) (k : CopyRecord) (hk : t.carry.copiers[d] = .busy k) :
      k = s.copyOf w line o ∧ d = c ∨ d ≠ c ∧ s.carry.copiers[d] = .busy k := by
    rw [hcopiers, vector_set_apply] at hk
    split at hk
    · cases hk
      exact .inl ⟨rfl, Eq.symm ‹_›⟩
    · exact .inr ⟨Ne.symm ‹_›, hk⟩
  refine ⟨?_, ?_, ?_, ?_, fun d k hk howned => ?_, fun d e hde k hk j hj => ?_, ?_, ?_, fun hq => ?_⟩
  · rw [State.everyWindow, hwindows]; exact h.windows
  · exact State.blockedMatchesFaults_congr h.groups (fun g => by rw [hgroups]) fun v => by
      rw [hwindows]; exact ⟨Iff.rfl, fun _ => rfl⟩
  · simp only [State.pendingWritesRouted, State.pendingWriteRouted, hport, hwindows]
    exact h.pendingWrites
  · simp only [State.pendingReadsAddressed, hport]
    exact h.pendingReads
  · rw [Copier.mem_record?] at hk
    rw [hwindows]
    obtain ⟨rfl, -⟩ | ⟨-, hold⟩ := hcopier d k hk
    · exact ⟨hcopied, hline, rfl, rfl⟩
    · exact h.copies d k (Copier.mem_record?.2 hold) howned
  · rw [Copier.mem_record?] at hk hj
    obtain ⟨rfl, rfl⟩ | ⟨-, hk'⟩ := hcopier d k hk
    · obtain ⟨rfl, hec⟩ | ⟨-, hj'⟩ := hcopier e j hj
      · exact absurd hec.symm hde
      · exact ⟨(hlive e j hj').1, (hlive e j hj').2, (hshadow e j hj').2⟩
    · obtain ⟨rfl, rfl⟩ | ⟨-, hj'⟩ := hcopier e j hj
      · exact ⟨Ne.symm (hlive d k hk').1, Ne.symm (hshadow d k hk').1, Ne.symm (hshadow d k hk').2⟩
      · exact h.copiers d e hde k (Copier.mem_record?.2 hk') j (Copier.mem_record?.2 hj')
  · have hboot : t.bootInProgress = s.bootInProgress := by rw [State.bootInProgress, hstartUp]; rfl
    have hawake : ¬ (s.bootInProgress = true ∨ s.pins.pwrupLow = true) := fun hs => by
      rw [(h.asleep hs).windows w] at hcopied
      cases hcopied
    rw [State.bootQuiet, hboot, hpins]
    exact ⟨h.boot.1, fun hs => absurd hs hawake⟩
  · simp only [State.resetQuiet, State.resetHeld, hpins, hport, hlink]
    exact h.reset
  · rw [State.copiesExcludeWrites_iff]
    intro d k hk i u hu hwrite hissued
    rw [hport] at hu
    obtain ⟨rfl, -⟩ | ⟨-, hold⟩ := hcopier d k hk
    · exact ⟨hliveQuiet i u hu hwrite hissued, hshadowQuiet i u hu hwrite hissued⟩
    · exact s.copiesExcludeWrites_iff.1 (h.exclude hq) d k hold i u hu hwrite hissued

theorem State.quiet_safe {q : Prop} {s : State} (h : s.Safe q) : s.quiet.Safe q :=
  h.of_blocks rfl rfl rfl ⟨rfl, rfl⟩ rfl rfl id

theorem execCopierTake_safe {q : Prop} {s t : State} (h : s.Safe q) (hexec : execCopierTake s = .next t) : t.Safe q := by
  have hquiet := State.quiet_safe h
  unfold execCopierTake at hexec
  dsimp only at hexec
  split at hexec
  next =>
    cases hexec
    exact hquiet
  next c w line o hnext =>
    cases hexec
    have hfirst : s.quiet.firstCandidate = some (w, line, o) := by
      unfold State.nextCopy at hnext
      split at hnext
      · cases hnext; assumption
      · cases hnext
    have hsound : (((s.quiet.setCopier c (.busy (s.quiet.copyOf w line o))).withCarry
        { (s.quiet.setCopier c (.busy (s.quiet.copyOf w line o))).carry with
          nextTake := s.quiet.carry.nextTake + 1 })).Sound q :=
      hquiet.sound.take (State.candidate_of_firstCandidate hfirst) rfl rfl rfl rfl rfl rfl rfl
    exact hsound.retest_safe hquiet.inv.offered

end Sys2Proof.Machine
end

section
/-! What grants, results and timers keep of the promises of `State.Inv` (R13, R16, R52, R105, R110, R133, R137 to R140). -/

namespace Sys2Proof.Machine

open Sys2Proof

theorem State.setSlot_slot (s : State) (i j : Fin 8) (x : Option Transfer) :
    (s.setSlot i x).port.slots[j] = if i = j then x else s.port.slots[j] :=
  vector_set_apply s.port.slots i j x

/-! ## The issue of a transfer's first request (R13, R49, R105) -/

/-- R49, R107: a READY write meets no copy in flight, and a producer write of a line in the carry set is a whole-line write. -/
theorem State.Tested.ready {q : Prop} {s : State} (h : s.Tested q) {i : Fin 8} {u : Transfer}
    (hu : s.port.slots[i] = some u) (hready : u.phase = .ready) (hwrite : u.request.kind.isWrite = true) :
    ¬ s.copyReaches u ∧ ∀ w, u.window = some w → u.route = .shadowBank →
      s.windows[w].lineIndex u.request.address ∈ s.windows[w].carry → u.request.wholeLine = true := by
  have hunissued : u.unissued = true := by simp [Transfer.unissued, hready]
  have hwaits : s.waits u = [] := (h.transfers i u hu hunissued).1 hready
  have hmeets : ¬ s.copyReaches u := fun hreach => by
    have := (s.copyInFlight_mem_waits u).2 ⟨hwrite, hreach⟩
    rw [hwaits] at this
    cases this
  refine ⟨hmeets, fun w hwindow hroute hline => ?_⟩
  by_contra hwhole
  have hneeds : s.needsEntry u w := ⟨hwindow, hwrite, hroute, hline, hmeets, Bool.eq_false_of_not_eq_true hwhole⟩
  by_cases hentry : s.entryFor u w ∈ s.carry.demand
  · have := (s.demandLine_mem_waits u).2 ⟨w, hneeds, hentry⟩
    rw [hwaits] at this
    cases this
  · have := (s.demandRoom_mem_waits u).2 ⟨w, hneeds, hentry⟩
    rw [hwaits] at this
    cases this

/-- R49, R103, R105: an issued write's lines are among those it was aimed at. -/
theorem State.issuedLines_writeTargets {s : State} {u : Transfer} (h : s.pendingWriteRouted u) {l : Address}
    (hl : l ∈ (s.issuedTransfer u).issuedLines) : l ∈ s.writeTargets u := by
  obtain ⟨hread, -, -, hsome⟩ := h
  have hlines : (s.issuedTransfer u).issuedLines =
      lineOfAddress (s.issueAddress u) :: (s.shadowAtIssue u).address?.toList.map lineOfAddress := rfl
  rw [hlines] at hl
  cases hw : u.window with
  | none =>
    cases hr : u.route <;>
      simp_all [State.issueAddress, State.shadowAtIssue, State.writeTargets, MemoryResult.address?, -Fin.getElem_fin]
  | some w =>
    have hpass := (hsome w hw).2.1
    cases hr : u.route with
    | passThrough => exact absurd hr hpass
    | liveBank | shadowBank =>
      simpa [State.issueAddress, State.shadowAtIssue, State.writeTargets, MemoryResult.address?, hr, hw, hread,
        -Fin.getElem_fin] using hl
    | bothBanks =>
      by_cases hstale : s.stale u = true
      · simp only [State.issueAddress, State.shadowAtIssue, State.writeTargets, MemoryResult.address?, hr, hw, hread,
          hstale, if_true, Option.toList_none, List.map_nil, List.mem_singleton] at hl ⊢
        rw [hl]
        exact List.mem_cons_self ..
      · simpa [State.issueAddress, State.shadowAtIssue, State.writeTargets, MemoryResult.address?, hr, hw, hread, hstale,
          -Fin.getElem_fin] using hl

/-- R49, R105: the promises where a READY transfer is issued, before the issue steps of its window. -/
theorem State.Tested.issueFirst {q : Prop} {s : State} (h : s.Tested q) {i : Fin 8} {u : Transfer}
    (hu : s.port.slots[i] = some u) (hready : u.phase = .ready) :
    (s.setSlot i (some (s.issuedTransfer u))).Sound q := by
  have hslot (j : Fin 8) (v : Transfer) (hv : (s.setSlot i (some (s.issuedTransfer u))).port.slots[j] = some v) :
      v = s.issuedTransfer u ∨ s.port.slots[j] = some v := by
    rw [State.setSlot_slot] at hv
    split at hv
    · exact .inl (Option.some.inj hv).symm
    · exact .inr hv
  have hnotNew {j : Fin 8} {v : Transfer} (hv : (s.setSlot i (some (s.issuedTransfer u))).port.slots[j] = some v)
      (hunissued : v.unissued = true) : s.port.slots[j] = some v :=
    (hslot j v hv).resolve_left fun hnew => by rw [hnew] at hunissued; simp [Transfer.unissued, State.issuedTransfer] at hunissued
  have hnone : ¬ ∀ j : Fin 8, s.port.slots[j] = none := fun hall => by rw [hall i] at hu; cases hu
  refine ⟨h.sound.windows, h.sound.groups, fun j v hv hunissued => h.sound.pendingWrites j v (hnotNew hv hunissued) hunissued,
    fun j v hv hunissued => h.sound.pendingReads j v (hnotNew hv hunissued) hunissued, h.sound.copies, h.sound.copiers,
    ⟨h.sound.boot.1, fun hb => absurd (h.sound.asleep hb).slots hnone⟩,
    fun hheld => absurd (h.sound.reset hheld).1 hnone, fun hq => ?_⟩
  refine (State.copiesExcludeWrites_iff _).2 fun c k hk j v hv hwrite hissued => ?_
  obtain rfl | hold := hslot j v hv
  · have hunissued : u.unissued = true := by simp [Transfer.unissued, hready]
    have hrouted := h.sound.pendingWrites i u hu hunissued hwrite
    have hmeets := (h.ready hu hready hwrite).1
    exact ⟨fun hl => hmeets ⟨c, k, Copier.mem_record?.2 hk, .inl (State.issuedLines_writeTargets hrouted hl)⟩,
      fun hl => hmeets ⟨c, k, Copier.mem_record?.2 hk, .inr (State.issuedLines_writeTargets hrouted hl)⟩⟩
  · exact s.copiesExcludeWrites_iff.1 (h.sound.exclude hq) c k hk j v hold hwrite hissued

/-- R13: the record of a window that stages a line. -/
theorem Window.consistent_of_stage {x : Window} (h : x.consistent) (hstate : x.state.servesTwo = true) {line : Nat}
    (hline : line < x.lines) {y : Window}
    (hyx : y = { x with dirty := LineSet.insert line x.dirty, carry := y.carry })
    (hcarry : ∀ l ∈ y.carry, l ∈ x.carry ∧ l ≠ line) : y.consistent := by
  obtain ⟨hdisjoint, hrange, -, -, hfault, hlive, hranges⟩ := h
  have hdirty (l : Nat) : l ∈ y.dirty ↔ l = line ∨ l ∈ x.dirty := by rw [hyx]; exact LineSet.mem_insert line l x.dirty
  have hystate : y.state = x.state := by rw [hyx]
  have hylines : y.lines = x.lines := by rw [hyx]; rfl
  refine ⟨fun l hl hc => ?_, fun l hl => ?_, fun hs => ?_, fun hs => ?_, ?_, ?_, ?_⟩
  · obtain ⟨hold, hne⟩ := hcarry l hc
    exact hdisjoint l (((hdirty l).1 hl).resolve_left hne) hold
  · rw [hylines]
    obtain hd | hc := List.mem_append.1 hl
    · obtain rfl | hd := (hdirty l).1 hd
      · exact hline
      · exact hrange l (List.mem_append_left _ hd)
    · exact hrange l (List.mem_append_right _ (hcarry l hc).1)
  · rw [hystate] at hs
    obtain hs | hs | hs := hs <;> rw [hs] at hstate <;> cases hstate
  · rw [hystate] at hs
    rw [hs] at hstate
    cases hstate
  · rw [hyx]; exact hfault
  · rw [hyx]; exact hlive
  · rw [hyx]; exact hranges

/-- R13, R32, R52: the promises where a producer write of a window stages its line at its issue. -/
theorem State.Sound.stageLine {q : Prop} {s : State} (h : s.Sound q) {u : Transfer} {w : WindowId}
    (hwindow : u.window = some w) (hroute : u.route = .shadowBank)
    (hhome : s.windows[w].inHome u.request.address = true) (htwo : s.windows[w].state.servesTwo = true)
    (hmeets : ¬ s.copyReaches u)
    (hwhole : s.windows[w].lineIndex u.request.address ∈ s.windows[w].carry → u.request.wholeLine = true) :
    (s.stageLine u w).Sound q := by
  have hdisabled : s.windows[w].state ≠ .disabled := fun hd => by rw [hd] at htwo; cases htwo
  have hconsistent := h.windows w
  have hranges : s.windows[w].rangesValid = true := by
    obtain ⟨-, -, -, -, -, -, hranges⟩ := hconsistent
    exact hranges hdisabled
  have hlt := Window.lineIndex_lt hranges hhome
  have hcopyLine (c : Fin 2) (k : CopyRecord) (hk : s.carry.copiers[c] = .busy k) (howned : k.owned = true)
      (hw : k.window = w) : k.line ≠ s.windows[w].lineIndex u.request.address := fun hline => by
    obtain ⟨-, -, -, hdestination⟩ := (h.workFits w).copies c k hk howned hw
    refine hmeets ⟨c, k, Copier.mem_record?.2 hk, .inr ?_⟩
    rw [hdestination, hline, ← Window.lineOfAddress_copyAddress hranges]
    simp [State.writeTargets, hwindow, hroute, -Fin.getElem_fin]
  cases hcancels : s.cancels u with
  | true =>
    rw [State.stageLine_of_cancels w hcancels]
    exact h.lineLeaves (Window.consistent_of_stage hconsistent htwo hlt rfl fun l hl => (LineSet.mem_remove _ _ _).1 hl) rfl
      hdisabled hcopyLine
  | false =>
    rw [State.stageLine_of_not_cancels w hcancels]
    refine h.restage (Window.consistent_of_stage hconsistent htwo hlt rfl fun l hl => ⟨hl, ?_⟩) rfl hdisabled
      fun c k hk howned hw => ((h.workFits w).copies c k hk howned hw).2.1
    rintro rfl
    have hline : s.windows[w].carry.contains (s.windows[w].lineIndex u.request.address) = true := by simpa using hl
    have := (State.cancels_iff hwindow).2 ⟨hline, hwhole hl⟩
    rw [hcancels] at this
    cases this

/-- R105, R133 step 4: the promises where a READY transfer is issued, with the issue steps of its window. -/
theorem State.Tested.issued {q : Prop} {s : State} (h : s.Tested q) {i : Fin 8} {u : Transfer}
    (hu : s.port.slots[i] = some u) (hready : u.phase = .ready) :
    ((s.setSlot i (some (s.issuedTransfer u))).issueSteps u).Sound q := by
  have hissued := h.issueFirst hu hready
  by_cases hstages : u.route = .shadowBank ∧ u.request.kind.isWrite = true
  · obtain ⟨hroute, hwrite⟩ := hstages
    have hunissued : u.unissued = true := by simp [Transfer.unissued, hready]
    obtain ⟨-, -, hnone, hsome⟩ := h.sound.pendingWrites i u hu hunissued hwrite
    obtain ⟨hmeets, hwhole⟩ := h.ready hu hready hwrite
    cases hw : u.window with
    | none =>
      rw [hnone hw] at hroute
      cases hroute
    | some w =>
      obtain ⟨hhome, -, -, htwo⟩ := hsome w hw
      rw [State.issueSteps_of_producerWrite hroute hw hwrite]
      exact hissued.stageLine hw hroute hhome (htwo (.inl hroute)) hmeets (hwhole w hw hroute)
  · rw [State.issueSteps_of_ne (by
      by_cases hr : u.route = .shadowBank
      · exact .inr (Bool.eq_false_of_not_eq_true fun hwrite => hstages ⟨hr, hwrite⟩)
      · exact .inl hr)]
    exact hissued

/-! ## Grants (R133) -/

theorem firstOf_mem {l : List (RequestClass × Option Owner)} {cls : RequestClass} {o : Owner}
    (h : firstOf l = some (cls, o)) : (cls, some o) ∈ l := by
  induction l with
  | nil => cases h
  | cons x l ih =>
    obtain ⟨c, p⟩ := x
    cases p with
    | none => exact List.mem_cons_of_mem _ (ih h)
    | some p =>
      cases h
      exact List.mem_cons_self ..

/-- R134: the chosen request is one that its owner presents. -/
theorem State.chooseRequest_some {s : State} {cls : RequestClass} {o : Owner} (h : s.chooseRequest = some (cls, o)) :
    s.chooseBoot = some o ∨ (∃ x, s.chooseCopy x = some o) ∨ s.chooseUpstream = some o := by
  have hmem : (cls, some o) ∈ [(RequestClass.boot, s.chooseBoot), (.demandCopy, s.chooseCopy .demandCopy),
      (.urgentCopy, s.chooseCopy .urgentCopy), (.upstream, s.chooseUpstream), (.ordinaryCopy, s.chooseCopy .ordinaryCopy)] := by
    simp only [State.chooseRequest] at h
    split at h
    · have := firstOf_mem h
      simp only [List.reverse_cons, List.reverse_nil, List.nil_append, List.cons_append, List.mem_cons,
        List.not_mem_nil, or_false] at this ⊢
      tauto
    · exact firstOf_mem h
  simp only [List.mem_cons, Prod.mk.injEq, List.not_mem_nil, or_false] at hmem
  obtain ⟨-, hx⟩ | ⟨-, hx⟩ | ⟨-, hx⟩ | ⟨-, hx⟩ | ⟨-, hx⟩ := hmem
  · exact .inl hx.symm
  · exact .inr (.inl ⟨_, hx.symm⟩)
  · exact .inr (.inl ⟨_, hx.symm⟩)
  · exact .inr (.inr hx.symm)
  · exact .inr (.inl ⟨_, hx.symm⟩)

theorem State.chooseCopy_owner {s : State} {cls : RequestClass} {o : Owner} (h : s.chooseCopy cls = some o) :
    ∃ c, o = .copier c := by
  unfold State.chooseCopy at h
  split at h
  · split at h <;> cases h <;> exact ⟨_, rfl⟩
  · cases h; exact ⟨_, rfl⟩
  · cases h; exact ⟨_, rfl⟩
  · cases h

/-- R105, R134: a first request that is chosen is of a READY transfer. -/
theorem State.ready_of_chosen {s : State} {cls : RequestClass} {i : Fin 8} {u : Transfer}
    (h : s.chooseRequest = some (cls, .transfer i .first)) (hu : s.port.slots[i] = some u) : u.phase = .ready := by
  obtain hb | ⟨x, hc⟩ | hchosen := State.chooseRequest_some h
  · unfold State.chooseBoot at hb
    split at hb
    · split at hb <;> cases hb
    · cases hb
  · obtain ⟨c, hc⟩ := State.chooseCopy_owner hc
    cases hc
  · obtain ⟨v, hv, hpart, -⟩ := State.chooseUpstream_some hchosen
    rw [hu] at hv
    cases hv
    unfold State.presentedPart at hpart
    cases hp : u.phase with
    | waiting => rw [hp] at hpart; cases hpart
    | ready => rfl
    | issued =>
      rw [hp] at hpart
      dsimp only at hpart
      split at hpart
      · split at hpart <;> cases hpart
      all_goals cases hpart

theorem State.setSlot_follows {s : State} {i : Fin 8} {u v : Transfer} (hv : s.port.slots[i] = some v)
    (h : v.Becomes u) : s.Follows (s.setSlot i (some u)) := by
  refine .of_slots (fun j x hx => ?_) rfl rfl rfl rfl
  rw [State.setSlot_slot] at hx
  split at hx
  · subst_vars
    cases hx
    exact ⟨v, hv, h⟩
  · exact ⟨x, hx, .refl x⟩

/-- What an issue leaves of the port beside the table, and of the places of the table. -/
structure State.KeepsPlaces (s t : State) : Prop where
  offered : t.port.offered = s.port.offered
  occupied : ∀ i : Fin 8, s.port.slots[i] ≠ none → t.port.slots[i] ≠ none
  pins : t.pins = s.pins

theorem State.KeepsPlaces.offeredOnlyWhenClosed {s t : State} (h : s.KeepsPlaces t) (hs : s.offeredOnlyWhenClosed) :
    t.offeredOnlyWhenClosed :=
  State.offeredOnlyWhenClosed_congr hs (fun hh => by rwa [State.resetHeld, h.pins]) h.offered h.occupied

theorem State.KeepsPlaces.of_blocks {s t : State} (hport : t.port = s.port) (hpins : t.pins = s.pins) : s.KeepsPlaces t :=
  ⟨by rw [hport], fun i hi => by rw [hport]; exact hi, hpins⟩

theorem State.setSlot_keepsPlaces (s : State) (i : Fin 8) (u : Transfer) : s.KeepsPlaces (s.setSlot i (some u)) := by
  refine ⟨rfl, fun j hj => ?_, rfl⟩
  rw [State.setSlot_slot]
  split
  · simp
  · exact hj

/-- R133: the promises after the issue steps of the owner whose request is chosen. -/
theorem State.Tested.issue {q : Prop} {s s1 : State} {cls : RequestClass} {o : Owner} {r : MemRequest} (h : s.Tested q)
    (hchosen : s.chooseRequest = some (cls, o)) (hissue : s.issue o = some (r, s1)) : s1.Sound q ∧ s.KeepsPlaces s1 := by
  cases o with
  | startUp =>
    simp only [State.issue, Option.map_eq_some_iff, Prod.mk.injEq] at hissue
    obtain ⟨b, -, -, rfl⟩ := hissue
    exact ⟨h.sound.follow_same ⟨fun i u hu => ⟨u, hu, .refl u⟩, fun c k hk => ⟨k, hk, .refl k⟩, id, id, id, fun _ => id⟩ rfl rfl,
      .of_blocks rfl rfl⟩
  | copier c =>
    cases hk : s.carry.copiers[c] with
    | idle => simp only [State.issue, hk, reduceCtorEq] at hissue
    | busy k =>
      simp only [State.issue, hk, Option.some.injEq, Prod.mk.injEq] at hissue
      obtain ⟨-, rfl⟩ := hissue
      refine ⟨h.sound.follow_same (State.setCopier_follows fun k' hk' => ⟨k, hk, ?_⟩) rfl rfl, .of_blocks rfl rfl⟩
      cases hk'
      exact ⟨rfl, rfl, rfl, rfl, id⟩
  | transfer i part =>
    cases hu : s.port.slots[i] with
    | none => cases part <;> simp only [State.issue, hu, Option.map_none, reduceCtorEq] at hissue
    | some u =>
      cases part with
      | first =>
        simp only [State.issue, hu, Option.map_some, Option.some.injEq, Prod.mk.injEq] at hissue
        obtain ⟨-, rfl⟩ := hissue
        refine ⟨h.issued hu (State.ready_of_chosen hchosen hu), ?_⟩
        obtain ⟨hoffered, hoccupied, hpins⟩ := s.setSlot_keepsPlaces i (s.issuedTransfer u)
        obtain ⟨-, hport, -, -, -, -, hsteps, -⟩ := (s.setSlot i (some (s.issuedTransfer u))).issueSteps_frame u
        exact ⟨by rw [hport, hoffered], fun j hj => by rw [hport]; exact hoccupied j hj, hsteps.trans hpins⟩
      | shadow =>
        simp only [State.issue, hu] at hissue
        split at hissue
        next b a hshadow =>
          simp only [Option.some.injEq, Prod.mk.injEq] at hissue
          obtain ⟨-, rfl⟩ := hissue
          refine ⟨h.sound.follow_same (State.setSlot_follows hu ⟨rfl, rfl, rfl, rfl, rfl, Iff.rfl, ?_⟩) rfl rfl,
            s.setSlot_keepsPlaces i _⟩
          simp only [Transfer.issuedLines, hshadow, MemoryResult.address?]
        all_goals cases hissue

theorem execMemGrant_safe {q : Prop} {s t : State} (h : s.Safe q) (hexec : execMemGrant s = .next t) : t.Safe q := by
  have hquiet := State.quiet_safe h
  unfold execMemGrant at hexec
  dsimp only at hexec
  split at hexec
  next =>
    cases hexec
    exact hquiet
  next k cls o hnext =>
    cases hexec
    have hchosen : s.quiet.chooseRequest = some (cls, o) := by
      unfold State.nextGrant at hnext
      split at hnext
      · cases hnext; assumption
      · cases hnext
    unfold State.grant
    split
    next => exact hquiet
    next r s1 hissue =>
      obtain ⟨hsound, hplaces⟩ := hquiet.tested.issue hchosen hissue
      have hentered : (s1.enterSlot k r o (s.quiet.shareAfter cls)).Sound q :=
        hsound.follow_same (.of_blocks rfl rfl rfl rfl rfl) rfl rfl
      exact hentered.retest_safe (hplaces.offeredOnlyWhenClosed hquiet.inv.offered)

/-! ## Results of transfers (R110) -/

theorem MemoryResult.settle_address (m : MemoryResult) (ok : Bool) : (m.settle ok).address? = m.address? := by
  cases m <;> rfl

theorem Transfer.withResult_becomes (u : Transfer) (part : TransferPart) (ok : Bool) : u.Becomes (u.withResult part ok) := by
  cases part with
  | first =>
    refine ⟨rfl, rfl, rfl, rfl, rfl, Iff.rfl, ?_⟩
    simp only [Transfer.issuedLines, Transfer.withResult, MemoryResult.settle_address]
  | shadow =>
    refine ⟨rfl, rfl, rfl, rfl, rfl, Iff.rfl, ?_⟩
    simp only [Transfer.issuedLines, Transfer.withResult, MemoryResult.settle_address]

theorem State.Sound.transferResult {q : Prop} {s : State} (h : s.Sound q) (i : Fin 8) (part : TransferPart) (ok : Bool)
    (data : List Beat) : (s.transferResult i part ok data).Sound q := by
  cases hu : s.port.slots[i] with
  | none => simpa only [State.transferResult, hu] using h
  | some u =>
    have hset : (s.setSlot i (some (u.withResult part ok))).Sound q :=
      h.follow_same (State.setSlot_follows hu (u.withResult_becomes part ok)) rfl rfl
    rw [State.transferResult_of_slot hu]
    split
    · exact hset.answer i _ data
    · exact hset

end Sys2Proof.Machine
end

section
/-! What the boot load, the resets and the tick of REFCLK keep of the promises of `State.Inv` (R172 to R179). -/

namespace Sys2Proof.Machine

open Sys2Proof

/-! ## A part with an empty table and no copy -/

/-- A part that holds no transfer and no copy, with consistent windows and no group BLOCKED. -/
structure State.Emptied (s : State) : Prop where
  windows : ∀ w : WindowId, s.windows[w].consistent ∧ s.windows[w].state ≠ .faulted
  groups : ∀ g : GroupId, s.groups[g].state ≠ .blocked
  slots : ∀ i : Fin 8, s.port.slots[i] = none
  copiers : ∀ c : Fin 2, s.carry.copiers[c] = .idle

theorem State.Emptied.sound {s : State} (h : s.Emptied) (q : Prop) (hboot : s.bootQuiet)
    (hframe : s.resetHeld = true → s.link.frame = .idle) : s.Sound q := by
  have hnone (i : Fin 8) (u : Transfer) : u ∉ s.port.slots[i] := by rw [h.slots i]; simp
  have hidle (c : Fin 2) (k : CopyRecord) : k ∉ s.carry.copiers[c].record? := by rw [h.copiers c]; simp [Copier.record?]
  refine ⟨fun w => (h.windows w).1, fun g => ?_, fun i u hu => absurd hu (hnone i u), fun i u hu => absurd hu (hnone i u),
    fun c k hk => absurd hk (hidle c k), fun c d _ k hk => absurd hk (hidle c k), hboot, fun hh => ⟨h.slots, hframe hh⟩,
    fun _ c k hk => absurd hk (hidle c k)⟩
  refine ⟨fun hg => absurd hg (h.groups g), fun hf => ?_⟩
  obtain ⟨w, -, hw⟩ := (s.memberFaulted_iff g).1 hf
  exact absurd hw (h.windows w).2

theorem State.Emptied.tested {s : State} (h : s.Emptied) (q : Prop) (hboot : s.bootQuiet)
    (hframe : s.resetHeld = true → s.link.frame = .idle) : s.Tested q :=
  ⟨h.sound q hboot hframe, fun i u hu => by rw [h.slots i] at hu; cases hu⟩

theorem State.Asleep.emptied {s : State} (h : s.Asleep) (hwindows : s.everyWindow Window.consistent) : s.Emptied :=
  ⟨fun w => ⟨hwindows w, by rw [h.windows w]; simp⟩, fun g => by rw [h.groups g]; simp, h.slots, h.copiers⟩

/-! ## The boot load (R173 to R178) -/

/-- The promises after an event of the start-up controller during a load. -/
theorem State.Sound.withStartUp {q : Prop} {s : State} (h : s.Sound q) (hboot : s.bootInProgress = true) (x : StartUp) :
    (s.withStartUp x).Sound q :=
  h.follow_same ⟨fun _ u hu => ⟨u, hu, .refl u⟩, fun _ k hk => ⟨k, hk, .refl k⟩, fun _ => hboot, id, id, fun _ => id⟩ rfl rfl

theorem State.endBoot_boot (s : State) (r : EventRecord) : (s.endBoot r).bootInProgress = false := rfl

theorem State.Sound.endBoot {q : Prop} {s : State} (h : s.Sound q) (r : EventRecord) : (s.endBoot r).Sound q :=
  h.follow_same ⟨fun _ u hu => ⟨u, hu, .refl u⟩, fun _ k hk => ⟨k, hk, .refl k⟩,
    fun hb => (by rw [State.endBoot_boot] at hb; cases hb), id, id, fun _ => id⟩ rfl rfl

/-- R99 check 1, R170: during a boot load an accepted request is answered RETRY, and nothing enters the table. -/
theorem State.acceptUpTo_sameWork (n : Nat) {s : State} (h : s.bootInProgress = true) :
    s.SameWork (State.acceptUpTo n s) := by
  induction n generalizing s with
  | zero => exact ⟨rfl, rfl, rfl, rfl, rfl, rfl, rfl⟩
  | succ n ih =>
    unfold State.acceptUpTo
    split
    next => exact ⟨rfl, rfl, rfl, rfl, rfl, rfl, rfl⟩
    next i r rest _ =>
      have haccept (a : State) (ha : a.bootInProgress = true) : a.SameWork (a.accept i r) := by
        have hcheck : a.accept i r = (a.withPort { a.port with nextAcceptance := a.port.nextAcceptance + 1 }).respond r
            .retry [] := if_pos ha
        rw [hcheck]
        exact (a.withPort_sameWork (x := { a.port with nextAcceptance := a.port.nextAcceptance + 1 }) rfl).trans
          (State.respond_sameWork _ _ _ _)
      have hfirst : s.SameWork ((s.withPort { s.port with offered := rest }).accept i r) :=
        (s.withPort_sameWork (x := { s.port with offered := rest }) rfl).trans (haccept (s.withPort { s.port with offered := rest }) h)
      refine hfirst.trans (ih ?_)
      rw [State.bootInProgress, hfirst.startUp]
      exact h

/-- A part that applies an image: the load is in progress, the table and the copiers are empty, every group is OPEN. -/
structure State.Loading (s : State) : Prop where
  emptied : s.Emptied
  groups : ∀ g : GroupId, s.groups[g].state = .opened
  boot : s.bootInProgress = true
  pwrup : s.pins.pwrupLow = false
  frame : s.resetHeld = true → s.link.frame = .idle

theorem State.Loading.congr {s t : State} (h : s.Loading) (hwindows : ∀ w : WindowId, t.windows[w].consistent ∧
    t.windows[w].state ≠ .faulted) (hgroups : ∀ g : GroupId, t.groups[g].state = .opened)
    (hslots : t.port.slots = s.port.slots) (hcarry : t.carry = s.carry) (hstartUp : t.startUp = s.startUp)
    (hpins : t.pins = s.pins) (hlink : t.link = s.link) : t.Loading := by
  refine ⟨⟨hwindows, fun g => by rw [hgroups g]; simp, fun i => by rw [hslots]; exact h.emptied.slots i,
    fun c => by rw [hcarry]; exact h.emptied.copiers c⟩, hgroups, ?_, hpins ▸ h.pwrup, ?_⟩
  · rw [State.bootInProgress, hstartUp]; exact h.boot
  · rw [State.resetHeld, hpins, hlink]; exact h.frame

theorem Group.withRecord_state (x : Group) (record : List Byte) : (x.withRecord record).state = x.state := rfl

/-- R176: the group records of an image. -/
theorem State.Loading.applyGroupRecord {s : State} (h : s.Loading) (bytes : List Byte) (i : Nat) :
    (State.applyGroupRecord bytes s i).Loading ∧ (State.applyGroupRecord bytes s i).windows = s.windows := by
  unfold State.applyGroupRecord
  split
  · exact ⟨h, rfl⟩
  · refine ⟨h.congr h.emptied.windows (fun g => ?_) rfl rfl rfl rfl rfl, rfl⟩
    rw [State.setGroup_groups, vector_set_apply]
    split
    · exact (Group.withRecord_state _ _).trans (h.groups _)
    · exact h.groups g

/-- R176: the window records of an image, while every window is DISABLED. -/
theorem State.Loading.applyWindowRecord {s : State} (h : s.Loading) (hdisabled : ∀ w : WindowId, s.windows[w].state = .disabled)
    (bytes : List Byte) (i : Nat) : (State.applyWindowRecord bytes s i).Loading ∧
      ∀ w : WindowId, (State.applyWindowRecord bytes s i).windows[w].state = .disabled := by
  unfold State.applyWindowRecord
  split
  · exact ⟨h, hdisabled⟩
  next v _ =>
    have hrecord : (s.windows[v].withRecord (windowRecord bytes i)).consistent :=
      Window.consistent_of_ranges (h.emptied.windows v).1 rfl rfl rfl rfl rfl (.inl (hdisabled v))
        fun hs => by rw [hdisabled v] at hs; cases hs
    have hwindow (w : WindowId) : (s.setWindow v (s.windows[v].withRecord (windowRecord bytes i))).windows[w].consistent ∧
        (s.setWindow v (s.windows[v].withRecord (windowRecord bytes i))).windows[w].state = .disabled := by
      rw [State.setWindow_windows, vector_set_apply]
      split
      · exact ⟨hrecord, hdisabled v⟩
      · exact ⟨(h.emptied.windows w).1, hdisabled w⟩
    exact ⟨h.congr (fun w => ⟨(hwindow w).1, by rw [(hwindow w).2]; simp⟩) h.groups rfl rfl rfl rfl rfl,
      fun w => (hwindow w).2⟩

theorem State.Loading.applyImage {s : State} (h : s.Loading) (hdisabled : ∀ w : WindowId, s.windows[w].state = .disabled)
    (bytes : List Byte) : (s.applyImage bytes).Loading := by
  have hgroups : ((List.range (imageGroups bytes)).foldl (State.applyGroupRecord bytes) s).Loading ∧
      ((List.range (imageGroups bytes)).foldl (State.applyGroupRecord bytes) s).windows = s.windows :=
    foldl_keeps (fun a : State => a.Loading ∧ a.windows = s.windows) _
      (fun a i ⟨ha, hw⟩ => ⟨(ha.applyGroupRecord bytes i).1, (ha.applyGroupRecord bytes i).2.trans hw⟩) _ s ⟨h, rfl⟩
  rw [State.applyImage]
  generalize (List.range (imageGroups bytes)).foldl (State.applyGroupRecord bytes) s = b at *
  exact (foldl_keeps (fun a : State => a.Loading ∧ ∀ w : WindowId, a.windows[w].state = .disabled) _
    (fun a i ⟨ha, hw⟩ => ha.applyWindowRecord hw bytes i) _ b
    ⟨hgroups.1, fun w => by rw [hgroups.2]; exact hdisabled w⟩).1

/-- R177: the ENABLE of one window of an image. -/
theorem State.Loading.enableAtBootLoad {s : State} (h : s.Loading) (w : WindowId) : (s.enableAtBootLoad w).Loading := by
  obtain ⟨hrefused, htaken⟩ := s.enableAtBootLoad_eq w
  by_cases hends : s.windows[w].enableAtBoot = true ∧ s.enableTest w = .accepted
  case neg =>
    rw [hrefused (by
      by_cases he : s.windows[w].enableAtBoot = true
      · exact .inr fun ht => hends ⟨he, ht⟩
      · exact .inl (Bool.eq_false_of_not_eq_true he))]
    exact h
  obtain ⟨hflag, htest⟩ := hends
  have hset : (s.setWindow w s.windows[w].enabledBy).Loading := by
    refine h.congr (fun v => ?_) h.groups rfl rfl rfl rfl rfl
    rw [State.setWindow_windows, vector_set_apply]
    split
    · exact ⟨Window.enabledBy_consistent (State.enableTest_accepted htest).2, by simp [Window.enabledBy]⟩
    · exact h.emptied.windows v
  have hsettled : s.changeSettled w s.windows[w].enabledBy s.windows[w].inRanges .retry =
      s.setWindow w s.windows[w].enabledBy := State.settleWrites_of_empty hset.emptied.slots _ _
  rw [htaken hflag htest, State.enableTaken_eq, hsettled]
  generalize s.setWindow w s.windows[w].enabledBy = a at *
  rw [State.unblockGroup_of_ne (hset.emptied.groups _), State.retest_of_empty hset.emptied.slots]
  have hsame : a.SameWork a.acceptStanding := State.acceptUpTo_sameWork _ hset.boot
  exact hset.congr (fun v => by rw [hsame.windows]; exact hset.emptied.windows v)
    (fun g => by rw [hsame.groups]; exact hset.groups g) hsame.slots hsame.carry hsame.startUp hsame.pins hsame.link

/-- R176 to R178: the promises after the whole image is read. -/
theorem State.Sound.bootApply {q : Prop} {s : State} (h : s.Sound q) (hboot : s.bootInProgress = true)
    (bytes : List Byte) : (s.bootApply bytes).Sound q := by
  unfold State.bootApply
  split
  next => exact h.endBoot _
  next =>
    have hpwrup : s.pins.pwrupLow = false := Bool.eq_false_of_not_eq_true fun hp => by
      rw [h.boot.1 hp] at hboot
      cases hboot
    have hasleep := h.asleep (.inl hboot)
    have hloading : s.Loading :=
      ⟨hasleep.emptied h.windows, hasleep.groups, hboot, hpwrup, fun hh => (h.reset hh).2⟩
    have happlied := hloading.applyImage hasleep.windows bytes
    generalize s.applyImage bytes = a at *
    have henabled : ((places 16).foldl State.enableAtBootLoad a).Loading := by
      generalize places 16 = l
      exact foldl_keeps State.Loading _ (fun a w ha => ha.enableAtBootLoad w) l a happlied
    generalize (places 16).foldl State.enableAtBootLoad a = b at *
    have hended : (b.endBoot .bootDone).Emptied := ⟨henabled.emptied.windows, henabled.emptied.groups,
      henabled.emptied.slots, henabled.emptied.copiers⟩
    refine hended.sound q ⟨fun _ => b.endBoot_boot _, fun hb => ?_⟩ henabled.frame
    obtain hb | hb := hb
    · rw [State.endBoot_boot] at hb; cases hb
    · have hlow : b.pins.pwrupLow = true := hb
      rw [henabled.pwrup] at hlow
      cases hlow

theorem State.Sound.bootResult {q : Prop} {s : State} (h : s.Sound q) (ok : Bool) (data : List Beat) :
    (s.bootResult ok data).Sound q := by
  unfold State.bootResult
  split
  · split
    next hpointer =>
      have hboot : s.bootInProgress = true := by rw [State.bootInProgress, hpointer]
      unfold State.bootPointer
      dsimp only
      split
      · exact h.endBoot _
      · exact h.withStartUp hboot _
    next himage =>
      have hboot : s.bootInProgress = true := by rw [State.bootInProgress, himage]
      unfold State.bootImage
      dsimp only
      split
      · split
        · exact h.endBoot _
        · exact h.withStartUp hboot _
      · split
        · exact h.withStartUp hboot _
        · exact h.bootApply hboot _
    all_goals exact h
  · exact h.endBoot _

/-! ## Resets (R172, R179) -/

theorem Window.afterReset_consistent {x : Window} (h : x.consistent) : x.afterReset.consistent ∧ x.afterReset.state ≠ .faulted := by
  obtain ⟨-, -, -, -, -, hlive, hranges⟩ := h
  have hstate : x.afterReset.state = if x.state = .disabled then WindowState.disabled else .suspended := by
    rw [Window.afterReset_eq]
  refine ⟨Window.consistent_of_clean rfl (fun l hl => by cases hl) (fun _ => rfl) ?_ (fun hs => ?_) (fun hs => ?_), ?_⟩
  · rw [Window.faultMatchesState, hstate]
    split <;> simp [Window.afterReset]
  · rw [hstate] at hs
    split at hs
    · exact hlive ‹_›
    · cases hs
  · rw [hstate] at hs
    split at hs
    · exact absurd rfl hs
    · exact hranges ‹_›
  · rw [hstate]
    split <;> simp

theorem State.resetBlocks_emptied {s : State} (h : s.everyWindow Window.consistent) : s.resetBlocks.Emptied := by
  obtain ⟨hwindows, hgroups, hslots, -, hcopiers, -⟩ := s.resetBlocks_tables
  exact ⟨fun w => by rw [hwindows]; exact Window.afterReset_consistent (h w), fun g => by rw [hgroups]; simp [Group.afterReset],
    hslots, hcopiers⟩

theorem State.Emptied.congr {s t : State} (h : s.Emptied) (hwindows : t.windows = s.windows)
    (hgroups : t.groups = s.groups) (hslots : t.port.slots = s.port.slots) (hcarry : t.carry = s.carry) : t.Emptied :=
  ⟨hwindows ▸ h.windows, hgroups ▸ h.groups, hslots ▸ h.slots, hcarry ▸ h.copiers⟩

theorem State.resetBlocks_rest (s : State) : s.resetBlocks.startUp = s.startUp ∧ s.resetBlocks.pins = s.pins ∧
    s.resetBlocks.link = s.link := ⟨rfl, rfl, rfl⟩

/-- R167: the promises after SOFT_RESET, which no boot load lets run. -/
theorem State.Safe.softResetTaken {q : Prop} {s : State} (h : s.Safe q) (hawake : s.Awake) : s.softResetTaken.Safe q := by
  have hemptied := State.resetBlocks_emptied h.inv.windows
  obtain ⟨hstartUp, hpins, hlink⟩ := s.resetBlocks_rest
  rw [State.softResetTaken]
  dsimp only
  generalize s.resetBlocks = a at *
  have hawake' : a.Awake := by rwa [State.Awake, State.bootInProgress, hstartUp, hpins]
  have hended : ((a.withTiming { a.timing with sources := mapTable (fun _ r => r.afterSoftReset) a.timing.sources }).record
      (.reset .soft)).Emptied := hemptied.congr rfl rfl rfl rfl
  refine State.Tested.acceptStanding (hended.tested q ⟨fun _ => hawake'.1, fun hb => absurd hb hawake'.not_quiet⟩ fun hh => ?_)
  have hheld : s.resetHeld = true := by rw [State.resetHeld, ← hpins]; exact hh
  exact (congrArg Link.frame hlink).trans (h.inv.reset hheld).2

theorem State.safe_of_held {s : State} (q : Prop) (h : s.Emptied) (hboot : s.bootQuiet) (hframe : s.link.frame = .idle)
    (hheld : s.resetHeld = true) : s.Safe q := by
  obtain ⟨hsound, htransfers⟩ := h.tested q hboot fun _ => hframe
  exact hsound.safe htransfers (.inl hheld)

/-- R30, R82: a part that sleeps goes on sleeping through RST_N. -/
theorem State.Asleep.resetBlocks {s : State} (h : s.Asleep) : s.resetBlocks.Asleep := by
  obtain ⟨hwindows, hgroups, hslots, -, hcopiers, -⟩ := s.resetBlocks_tables
  refine ⟨fun w => ?_, fun g => by rw [hgroups g]; rfl, hslots, hcopiers⟩
  rw [hwindows w, Window.afterReset_eq]
  simp [h.windows, -Fin.getElem_fin]

/-- R172: the promises while RST_N is low. -/
theorem State.Safe.lineResetTaken {q : Prop} {s : State} (h : s.Safe q) {x : Pins}
    (hx : x.pwrupLow = false ∧ x.rstLow = true) : (s.withPins x).lineResetTaken.Safe q := by
  have hemptied := State.resetBlocks_emptied (s := s.withPins x) h.inv.windows
  have hasleep (hb : s.bootInProgress = true) : (s.withPins x).resetBlocks.Asleep := by
    obtain ⟨hw, hg, hi, hc⟩ := h.sound.asleep (.inl hb)
    exact State.Asleep.resetBlocks ⟨hw, hg, hi, hc⟩
  obtain ⟨hstartUp, hpins, -⟩ := (s.withPins x).resetBlocks_rest
  rw [State.lineResetTaken]
  generalize (s.withPins x).resetBlocks = a at *
  have hlow : a.pins.pwrupLow = false := by rw [hpins]; exact hx.1
  have hrst : a.pins.rstLow = true := by rw [hpins]; exact hx.2
  have hboot : ((((a.withTiming a.timing.afterLineReset).withLink a.link.afterLineReset).withStartUp
      a.startUp.afterLineFall)).bootInProgress = s.bootInProgress := by
    have hstate : a.startUp.afterLineFall.state = s.startUp.state := by rw [hstartUp]; rfl
    simp only [State.bootInProgress, State.withStartUp_startUp, hstate]
  refine State.safe_of_held q (hemptied.congr rfl rfl rfl rfl) ⟨fun hh => ?_, fun hb => ?_⟩ rfl ?_
  · have hh' : a.pins.pwrupLow = true := hh
    rw [hlow] at hh'
    cases hh'
  · rw [hboot] at hb
    obtain hb | hb := hb
    · obtain ⟨hw, hg, hi, hc⟩ := hasleep hb
      exact ⟨hw, hg, hi, hc⟩
    · have hb' : a.pins.pwrupLow = true := hb
      rw [hlow] at hb'
      cases hb'
  · show (a.pins.pwrupLow || a.pins.rstLow) = true
    rw [hrst, Bool.or_true]

/-- The promises after an event that moves pins only, where no port opens and no reset line falls that leaves the part open. -/
theorem State.Safe.withPins {q : Prop} {s : State} (h : s.Safe q) {x : Pins}
    (hpwrup : x.pwrupLow = true → s.pins.pwrupLow = true)
    (hheld : (x.pwrupLow || x.rstLow) = s.resetHeld) : (s.withPins x).Safe q :=
  h.congr ⟨fun _ u hu => ⟨u, hu, .refl u⟩, fun _ k hk => ⟨k, hk, .refl k⟩, id, hpwrup, fun hh => hheld ▸ hh, fun _ => id⟩
    rfl rfl rfl rfl rfl fun hh => hheld.trans hh

theorem execRstNFall_safe {q : Prop} {s t : State} (h : s.Safe q) (hexec : execRstNFall s = .next t) : t.Safe q := by
  have hquiet := State.quiet_safe h
  unfold execRstNFall at hexec
  dsimp only at hexec
  generalize s.quiet = a at *
  split at hexec
  next => cases hexec; exact hquiet
  next =>
    split at hexec
    next hpwrup =>
      cases hexec
      have hlow : a.pins.pwrupLow = true := hpwrup
      exact hquiet.withPins id (by simp [State.resetHeld, hlow])
    next hpwrup =>
      cases hexec
      have hlow : a.pins.pwrupLow = false := Bool.eq_false_of_not_eq_true hpwrup
      exact hquiet.lineResetTaken ⟨hlow, rfl⟩

/-- R172: every block at its power-on value. -/
theorem State.poweredOn_safe (q : Prop) (s : State) : s.poweredOn.Safe q := by
  have hasleep : s.poweredOn.Asleep := by
    obtain ⟨hwindows, hgroups, hslots, -, hcopiers⟩ := State.reset_tables
    exact ⟨fun w => congrArg Window.state (hwindows w), fun g => congrArg Group.state (hgroups g), hslots, hcopiers⟩
  have hconsistent : s.poweredOn.everyWindow Window.consistent := State.reset_inv.windows
  obtain ⟨hw, hg, hi, hc⟩ := hasleep
  exact State.safe_of_held q (State.Asleep.emptied ⟨hw, hg, hi, hc⟩ hconsistent) ⟨fun _ => rfl, fun _ => ⟨hw, hg, hi, hc⟩⟩ rfl
    (by simp [State.resetHeld, State.poweredOn])

theorem execPwrupNFall_safe {q : Prop} {s t : State} (h : s.Safe q) (hexec : execPwrupNFall s = .next t) : t.Safe q := by
  have hquiet := State.quiet_safe h
  unfold execPwrupNFall at hexec
  dsimp only at hexec
  split at hexec
  · cases hexec; exact hquiet
  · cases hexec; exact State.poweredOn_safe q _

/-- The promises within the event of a release: the port may open, and a boot load may begin in a part that sleeps. -/
theorem State.Safe.release {q : Prop} {s : State} (h : s.Safe q) {x : Pins} (hpwrup : x.pwrupLow = false)
    (hheld : s.resetHeld = true) : (s.withPins x).Tested q := by
  have hf : s.Follows (s.withPins x) := ⟨fun _ u hu => ⟨u, hu, .refl u⟩, fun _ k hk => ⟨k, hk, .refl k⟩, id,
    fun hp => (by rw [State.withPins_pins, hpwrup] at hp; cases hp), fun _ => hheld, fun _ => id⟩
  exact ⟨h.sound.follow_same hf rfl rfl,
    State.transfersTested_of_blocks h.inv.transfers h.inv.pendingReads rfl rfl rfl⟩

/-- R173: the promises where a boot load begins or is asked for in a part that sleeps. -/
theorem State.Safe.startBoot {q : Prop} {s : State} (h : s.Safe q) (hlow : s.pins.pwrupLow = true) {x : Pins}
    (hpwrup : x.pwrupLow = false) (y : StartUp) : ((s.withPins x).withStartUp y).Tested q := by
  have hheld : s.resetHeld = true := by rw [State.resetHeld, hlow, Bool.true_or]
  obtain ⟨hw, hg, hi, hc⟩ := h.sound.asleep (.inr hlow)
  have hemptied : ((s.withPins x).withStartUp y).Emptied := State.Asleep.emptied ⟨hw, hg, hi, hc⟩ h.inv.windows
  refine hemptied.tested q ⟨fun hh => ?_, fun _ => ⟨hw, hg, hi, hc⟩⟩ fun _ => (h.inv.reset hheld).2
  have hh' : x.pwrupLow = true := hh
  rw [hpwrup] at hh'
  cases hh'

theorem execPwrupNRelease_safe {q : Prop} {boot : Bool} {s t : State} (h : s.Safe q)
    (hexec : execPwrupNRelease boot s = .next t) : t.Safe q := by
  have hquiet := State.quiet_safe h
  unfold execPwrupNRelease at hexec
  dsimp only at hexec
  generalize s.quiet = a at *
  split at hexec
  next => cases hexec; exact hquiet
  next hnot =>
    have hlow : a.pins.pwrupLow = true := by simpa using hnot
    have hheld : a.resetHeld = true := by rw [State.resetHeld, hlow, Bool.true_or]
    split at hexec
    next =>
      cases hexec
      exact (hquiet.release (x := { a.pins with pwrupLow := false }) rfl hheld).acceptStanding
    next =>
      split at hexec
      next hrst =>
        cases hexec
        obtain ⟨hsound, htransfers⟩ := hquiet.startBoot hlow (x := { a.pins with pwrupLow := false }) rfl
          { a.startUp with state := .pending }
        have hrst' : a.pins.rstLow = true := hrst
        exact hsound.safe htransfers (.inl (by simp [State.resetHeld, hrst']))
      next =>
        cases hexec
        exact (hquiet.startBoot hlow (x := { a.pins with pwrupLow := false }) rfl _).acceptStanding

theorem execRstNRelease_safe {q : Prop} {s t : State} (h : s.Safe q) (hexec : execRstNRelease s = .next t) : t.Safe q := by
  have hquiet := State.quiet_safe h
  unfold execRstNRelease at hexec
  dsimp only at hexec
  generalize s.quiet = a at *
  split at hexec
  next => cases hexec; exact hquiet
  next hnot =>
    have hrst : a.pins.rstLow = true := by simpa using hnot
    have hheld : a.resetHeld = true := by rw [State.resetHeld, hrst, Bool.or_true]
    split at hexec
    next hpwrup =>
      cases hexec
      have hlow : a.pins.pwrupLow = true := hpwrup
      exact hquiet.withPins id (by simp [State.resetHeld, hlow])
    next hpwrup =>
      cases hexec
      have hlow : a.pins.pwrupLow = false := Bool.eq_false_of_not_eq_true hpwrup
      have htested := hquiet.release (x := { a.pins with rstLow := false }) hlow hheld
      obtain ⟨hnone, hpending, hfails⟩ := (a.withPins { a.pins with rstLow := false }).lineReleased_eq
      have hrecord : (((a.withPins { a.pins with rstLow := false }).record (.reset .line))).Tested q :=
        (State.record_sameWork _ _).tested htested
      refine State.Tested.acceptStanding ?_
      generalize a.withPins { a.pins with rstLow := false } = b at *
      have htransfers {x : EventRecord} {y : StartUp} : (((b.record x).withStartUp y)).transfersTested :=
        State.transfersTested_of_blocks htested.transfers htested.sound.pendingReads rfl rfl rfl
      cases hstate : b.startUp.state with
      | none => rw [hnone (.inl hstate)]; exact hrecord
      | ended => rw [hnone (.inr hstate)]; exact hrecord
      | pending =>
        rw [hpending hstate]
        have hboot : (b.record (.reset .line)).bootInProgress = true := by
          have hrecorded : (b.record (.reset .line)).startUp.state = .pending := hstate
          rw [State.bootInProgress, hrecorded]
        exact ⟨hrecord.sound.withStartUp hboot _, htransfers⟩
      | pointer =>
        rw [hfails (.inl hstate)]
        exact ⟨hrecord.sound.endBoot _, State.transfersTested_of_blocks hrecord.transfers hrecord.sound.pendingReads
          rfl rfl rfl⟩
      | image =>
        rw [hfails (.inr hstate)]
        exact ⟨hrecord.sound.endBoot _, State.transfersTested_of_blocks hrecord.transfers hrecord.sound.pendingReads
          rfl rfl rfl⟩

/-! ## The tick of REFCLK (log 4) -/

theorem Transfer.tick_hold (u : Transfer) : ∃ x, u.tick = { u with hold := x } := by
  unfold Transfer.tick
  split
  · exact ⟨_, rfl⟩
  · exact ⟨u.hold, rfl⟩

theorem State.Safe.tickMemory {q : Prop} {s : State} (h : s.Safe q) : s.tickMemory.Safe q :=
  h.of_blocks rfl rfl rfl ⟨rfl, rfl⟩ rfl rfl id

theorem State.Safe.tickOthers {q : Prop} {s : State} (h : s.Safe q) : s.tickOthers.Safe q := by
  have hslots (i : Fin 8) : s.tickOthers.port.slots[i] = s.port.slots[i].map Transfer.tick :=
    mapTable_getElem_fin _ _ i
  have hf : s.Follows s.tickOthers := by
    refine .of_slots (fun i u hu => ?_) rfl rfl rfl rfl
    rw [hslots] at hu
    obtain ⟨v, hv, rfl⟩ := Option.map_eq_some_iff.1 hu
    obtain ⟨x, hx⟩ := v.tick_hold
    rw [hx]
    exact ⟨v, hv, rfl, rfl, rfl, rfl, rfl, Iff.rfl, rfl⟩
  refine (h.sound.follow_same hf rfl rfl).safe
    (State.transfersTested_congr h.inv.transfers h.inv.pendingReads (.of_windows rfl rfl) Transfer.tick_hold hslots)
    (State.offeredOnlyWhenClosed_congr h.inv.offered id rfl fun i hi => ?_)
  rw [hslots]
  simpa [-Fin.getElem_fin] using hi

theorem State.Safe.tick {q : Prop} {s : State} (h : s.Safe q) : s.tick.Safe q := by
  have hquiet := State.quiet_safe h
  unfold State.tick
  dsimp only
  split
  · exact hquiet
  · split
    · exact hquiet.tickMemory
    · exact hquiet.tickMemory.tickOthers

end Sys2Proof.Machine
end

section
/-! What the rows of memory, of the limits, of the synchronization inputs and of the management link keep of the promises
of `State.Inv`. -/

namespace Sys2Proof.Machine

open Sys2Proof

/-- What the meaning of a command that always goes on keeps. -/
theorem State.Safe.of_next {q : Prop} {s t : State} (h : s.Safe q)
    (hexec : (.next s : Host.Outcome State Fault Refusal) = .next t) : t.Safe q := by
  cases hexec
  exact h

/-! ## Memory (R137 to R140) -/

theorem State.Sound.of_blocks {q : Prop} {s t : State} (h : s.Sound q) (hwindows : t.windows = s.windows)
    (hcarry : t.carry = s.carry) (hgroups : t.groups = s.groups) (hport : t.port = s.port)
    (hstartUp : t.startUp = s.startUp) (hpins : t.pins = s.pins) (hlink : t.link = s.link) : t.Sound q :=
  h.follow_same (.of_blocks (congrArg SystemPort.slots hport) (congrArg CarryEngine.copiers hcarry) hstartUp hpins hlink)
    hwindows hgroups

theorem State.Sound.handResult {q : Prop} {s : State} (h : s.Sound q) (o : Owner) (ok : Bool) (data : List Beat) :
    (s.handResult o ok data).Sound q := by
  cases o with
  | transfer i part => exact h.transferResult i part ok data
  | copier c => exact h.copyResult c ok data
  | startUp => exact h.bootResult ok data

theorem State.Sound.countFree {q : Prop} {s : State} (h : s.Sound q) (isOpen : Bool) : (s.countFree isOpen).Sound q := by
  unfold State.countFree
  split
  · exact h.of_blocks rfl rfl rfl rfl rfl rfl rfl
  · exact h

theorem State.Sound.setMemSlot {q : Prop} {s : State} (h : s.Sound q) (k : Fin 12) (x : MemSlot) :
    (s.setMemSlot k x).Sound q :=
  h.of_blocks rfl rfl rfl rfl rfl rfl rfl

theorem State.Safe.setMemSlot {q : Prop} {s : State} (h : s.Safe q) (k : Fin 12) (x : MemSlot) :
    (s.setMemSlot k x).Safe q :=
  h.of_blocks rfl rfl rfl ⟨rfl, rfl⟩ rfl rfl id

theorem State.Safe.respondPending {q : Prop} {s : State} (h : s.Safe q) (k : Fin 12) (request : MemRequest) (o : Owner)
    (status : MemStatus) (data : List Beat) : (s.respondPending k request o status data).Safe q := by
  have hfree := h.sound.setMemSlot k .free
  cases status with
  | okay => exact ((hfree.countFree _).handResult o true _).settled
  | error => exact (hfree.handResult o false []).settled

theorem execMemResponse_safe {q : Prop} {k : Fin 12} {status : MemStatus} {data : List Beat} {s t : State} (h : s.Safe q)
    (hexec : execMemResponse k status data s = .next t) : t.Safe q := by
  have hquiet := State.quiet_safe h
  unfold execMemResponse at hexec
  dsimp only at hexec
  generalize s.quiet = a at *
  split at hexec <;> cases hexec
  · exact hquiet
  · exact hquiet.setMemSlot _ _
  · exact hquiet.respondPending _ _ _ _ _

theorem State.Safe.timeOut {q : Prop} {s : State} (h : s.Safe q) (k : Fin 12) (request : MemRequest) (o : Owner) :
    (s.timeOut k request o).Safe q := by
  have hrecorded := (s.record_sameWork (.memTimeout request.address (s.timeoutWindow o))).sound h.sound
  rw [State.timeOut]
  generalize s.record (.memTimeout request.address (s.timeoutWindow o)) = a at *
  exact ((hrecorded.setMemSlot k (.fenced 0 s.link.memoryLimit.toNat)).handResult o false []).settled

theorem execMemTimeout_safe {q : Prop} {k : Fin 12} {s t : State} (h : s.Safe q)
    (hexec : execMemTimeout k s = .next t) : t.Safe q := by
  have hquiet := State.quiet_safe h
  unfold execMemTimeout at hexec
  dsimp only at hexec
  generalize s.quiet = a at *
  split at hexec
  · cases hexec; exact hquiet
  · cases hexec; exact hquiet
  · split at hexec <;> cases hexec
    · exact hquiet.timeOut _ _ _
    · exact hquiet

theorem execFenceEnd_safe {q : Prop} {k : Fin 12} {s t : State} (h : s.Safe q)
    (hexec : execFenceEnd k s = .next t) : t.Safe q := by
  have hquiet := State.quiet_safe h
  unfold execFenceEnd at hexec
  dsimp only at hexec
  generalize s.quiet = a at *
  split at hexec
  · cases hexec; exact hquiet
  · cases hexec; exact hquiet
  · split at hexec <;> cases hexec
    · exact hquiet.setMemSlot _ _
    · exact hquiet

/-! ## Acceptance and limits (R97, R108, R125) -/

theorem execRequestAcceptance_safe {q : Prop} {r : Request} {s t : State} (h : s.Safe q)
    (hexec : execRequestAcceptance r s = .next t) : t.Safe q := by
  have hquiet := State.quiet_safe h
  cases hexec
  generalize s.quiet = a at *
  exact ((a.withPort_sameWork (x := { a.port with offered := a.port.offered ++ [r] }) rfl).tested hquiet.tested).acceptStanding

theorem execHoldLimitExpiry_safe {q : Prop} {i : Fin 8} {s t : State} (h : s.Safe q)
    (hexec : execHoldLimitExpiry i s = .next t) : t.Safe q := by
  have hquiet := State.quiet_safe h
  unfold execHoldLimitExpiry at hexec
  dsimp only at hexec
  generalize s.quiet = a at *
  split at hexec
  · cases hexec; exact hquiet
  · split at hexec <;> cases hexec
    · exact (((a.record_sameWork _).sound hquiet.sound).answer i .retry []).settled
    · exact hquiet

theorem execLockLimitExpiry_safe {q : Prop} {j : Fin 4} {s t : State} (h : s.Safe q)
    (hexec : execLockLimitExpiry j s = .next t) : t.Safe q := by
  have hquiet := State.quiet_safe h
  unfold execLockLimitExpiry at hexec
  dsimp only at hexec
  generalize s.quiet = a at *
  split at hexec
  · cases hexec; exact hquiet
  · split at hexec <;> cases hexec
    · exact hquiet.of_blocks rfl rfl rfl ⟨rfl, rfl⟩ rfl rfl id
    · exact hquiet

/-! ## Epoch timing (R84, R87) -/

theorem State.Safe.setSource {q : Prop} {s : State} (h : s.Safe q) (e : SourceId) (x : Source) : (s.setSource e x).Safe q :=
  h.of_blocks rfl rfl rfl ⟨rfl, rfl⟩ rfl rfl id

theorem execCloseTimerExpiry_safe {q : Prop} {e : SourceId} {s t : State} (h : s.Safe q)
    (hexec : execCloseTimerExpiry e s = .next t) : t.Safe q := by
  have hquiet := State.quiet_safe h
  unfold execCloseTimerExpiry at hexec
  dsimp only at hexec
  generalize s.quiet = a at *
  split at hexec <;> cases hexec
  · exact hquiet.setSource _ _
  · exact hquiet

theorem execSyncRisingEdge_safe {q : Prop} {i : Fin 2} {level : Bool} {s t : State} (h : s.Safe q)
    (hexec : execSyncRisingEdge i level s = .next t) : t.Safe q := by
  have hquiet := State.quiet_safe h
  have hmoved : ((s.quiet.syncLevel i level).clearEdge i).Safe q := by
    generalize s.quiet = a at *
    exact (hquiet.withPins (x := { a.pins with syncHigh := a.pins.syncHigh.set i level }) id rfl).of_blocks
      rfl rfl rfl ⟨rfl, rfl⟩ rfl rfl id
  unfold execSyncRisingEdge at hexec
  dsimp only at hexec
  generalize (s.quiet.syncLevel i level).clearEdge i = a at *
  split at hexec
  · exact (hmoved.boundaryOf _).of_next hexec
  · exact hmoved.of_next hexec

/-! ## Frames of the management link (R158, R159) -/

/-- R169: while a reset is held no frame is open. -/
theorem State.Safe.open_of_frame {q : Prop} {s : State} (h : s.Safe q) (hframe : s.link.frame ≠ .idle) :
    s.resetHeld = false :=
  Bool.eq_false_of_not_eq_true fun hheld => hframe (h.inv.reset hheld).2

theorem State.Safe.withLink {q : Prop} {s : State} (h : s.Safe q) {x : Link}
    (hframe : s.link.frame = .idle → x.frame = .idle) : (s.withLink x).Safe q :=
  h.of_blocks rfl rfl rfl ⟨rfl, rfl⟩ rfl rfl hframe

/-- An open frame goes on in any frame state. -/
theorem State.Safe.withLink_open {q : Prop} {s : State} (h : s.Safe q) (hframe : s.link.frame ≠ .idle) (x : Link) :
    (s.withLink x).Safe q :=
  h.withLink fun hidle => absurd hidle hframe

theorem State.Safe.present {q : Prop} {s : State} (h : s.Safe q) (i : Index) : (s.present i).Safe q := by
  unfold State.present
  split
  · exact h.withLink id
  · exact h.withLink id

theorem State.Safe.completeRead {q : Prop} {s : State} (h : s.Safe q) (i : Index) : (s.completeRead i).Safe q := by
  unfold State.completeRead
  split
  · exact h
  · split
    · exact h.of_blocks rfl rfl rfl ⟨rfl, rfl⟩ rfl rfl id
    · exact h

theorem State.Safe.takeReadByte {q : Prop} {s : State} (h : s.Safe q) {j : Index} (hframe : s.link.frame = .read j)
    (i : Index) : (s.takeReadByte i).Safe q := by
  refine (h.completeRead i).withLink_open ?_ _
  rw [s.completeRead_link, hframe]
  simp

/-- A frame opens only while the part is not held in reset (R169). -/
theorem State.Safe.openFrame {q : Prop} {s : State} (h : s.Safe q) (hopen : s.resetHeld = false) (x : Link) :
    (s.withLink x).Safe q := by
  have hf : s.Follows (s.withLink x) := ⟨fun _ u hu => ⟨u, hu, .refl u⟩, fun _ k hk => ⟨k, hk, .refl k⟩, id, id, id,
    fun hheld => absurd (hopen.symm.trans hheld) Bool.false_ne_true⟩
  exact h.congr hf rfl rfl rfl rfl rfl id

theorem execFrameOpen_safe {q : Prop} {s t : State} (h : s.Safe q) (hexec : execFrameOpen s = .next t) : t.Safe q := by
  have hquiet := State.quiet_safe h
  unfold execFrameOpen at hexec
  dsimp only at hexec
  generalize s.quiet = a at *
  have hmoved : (a.withPins { a.pins with mselLow := true, mclkHigh := false }).Safe q := hquiet.withPins id rfl
  generalize a.withPins { a.pins with mselLow := true, mclkHigh := false } = b at *
  split at hexec
  · cases hexec; exact hquiet
  · split at hexec <;> cases hexec
    next => exact hmoved
    next hopen => exact hmoved.openFrame (Bool.eq_false_of_not_eq_true hopen) _

theorem execFrameEnd_safe {q : Prop} {s t : State} (h : s.Safe q) (hexec : execFrameEnd s = .next t) : t.Safe q := by
  have hquiet := State.quiet_safe h
  unfold execFrameEnd at hexec
  dsimp only at hexec
  generalize s.quiet = a at *
  split at hexec <;> cases hexec
  · exact (hquiet.withPins (x := { a.pins with mselLow := false }) id rfl).withLink fun _ => rfl
  · exact hquiet

theorem State.frame_of_byteFrame {s : State} {f : Frame} (h : s.byteFrame = f) (hf : f ≠ .idle) : s.link.frame = f :=
  ((s.byteFrame_eq_iff f hf).1 h).1

theorem execIdentifierByte_safe {q : Prop} {b : Byte} {s t : State} (h : s.Safe q)
    (hexec : execIdentifierByte b s = .next t) : t.Safe q := by
  have hquiet := State.quiet_safe h
  unfold execIdentifierByte at hexec
  dsimp only at hexec
  generalize s.quiet = a at *
  split at hexec <;> cases hexec
  next hframe => exact hquiet.withLink_open (by simp [State.frame_of_byteFrame hframe]) _
  all_goals exact hquiet

theorem execIndexBytes_safe {q : Prop} {high low : Byte} {s t : State} (h : s.Safe q)
    (hexec : execIndexBytes high low s = .next t) : t.Safe q := by
  have hquiet := State.quiet_safe h
  unfold execIndexBytes at hexec
  dsimp only at hexec
  generalize s.quiet = a at *
  split at hexec <;> cases hexec
  next hframe => exact (hquiet.withLink_open (by simp [State.frame_of_byteFrame hframe]) _).present _
  next hframe => exact hquiet.withLink_open (by simp [State.frame_of_byteFrame hframe]) _
  all_goals exact hquiet

theorem execHeadRecordRemoval_safe {q : Prop} {s t : State} (h : s.Safe q)
    (hexec : execHeadRecordRemoval s = .next t) : t.Safe q := by
  have hquiet := State.quiet_safe h
  unfold execHeadRecordRemoval at hexec
  dsimp only at hexec
  generalize s.quiet = a at *
  split at hexec <;> cases hexec
  next i hframe => exact (hquiet.takeReadByte (State.frame_of_byteFrame hframe (by simp)) i).present _
  all_goals exact hquiet

end Sys2Proof.Machine
end

section
/-! Every command and every step keeps the promises of `State.Inv`, and no copy meets a write in flight. -/

namespace Sys2Proof.Machine

open Sys2Proof

/-! ## Data bytes of a write frame (R160, R162) -/

theorem Group.withTrigger_state {x y : Group} {v : Nat} (h : x.withTrigger v = some y) : y.state = x.state := by
  unfold Group.withTrigger at h
  split at h
  · cases h; rfl
  · split at h <;> cases h
    rfl

theorem State.Safe.commitLimit {q : Prop} {s : State} (h : s.Safe q) (v : Nat) {x : Link} (hx : x.frame = s.link.frame) :
    (s.commitLimit v x).Safe q := by
  unfold State.commitLimit
  split
  · exact State.refuseWrite_safe h
  · exact h.withLink fun hidle => hx.trans hidle

theorem State.Safe.commit {q : Prop} {s : State} (h : s.Safe q) (f : Field) (v : Nat) : (s.commit f v).Safe q := by
  cases f with
  | argument => exact h.withLink id
  | code => exact h
  | writeRefused =>
    show (if v = 0 then _ else _ : State).Safe q
    split
    · exact h.withLink id
    · exact State.refuseWrite_safe h
  | holdLimit => exact h.commitLimit v rfl
  | lockLimit => exact h.commitLimit v rfl
  | memoryLimit => exact h.commitLimit v rfl
  | eventMask => exact h.of_blocks rfl rfl rfl ⟨rfl, rfl⟩ rfl rfl id
  | overrun =>
    show (if v = 0 then _ else _ : State).Safe q
    split
    · exact h.of_blocks rfl rfl rfl ⟨rfl, rfl⟩ rfl rfl id
    · exact State.refuseWrite_safe h
  | windowBase w => exact h.commitRange rfl
  | windowTwin w => exact h.commitRange rfl
  | windowSizeCode w => exact h.commitRange rfl
  | windowGroup w =>
    refine h.commitMode fun y hy => ?_
    obtain ⟨g, -, rfl⟩ := Option.map_eq_some_iff.1 hy
    rfl
  | windowPolicy w =>
    refine h.commitMode fun y hy => ?_
    obtain ⟨p, -, rfl⟩ := Option.map_eq_some_iff.1 hy
    rfl
  | groupProducers g => exact h.commitGroup fun x hx => by cases hx; rfl
  | groupSource g =>
    refine h.commitGroup fun x hx => ?_
    obtain ⟨e, -, rfl⟩ := Option.map_eq_some_iff.1 hx
    rfl
  | groupLag g =>
    refine h.commitGroup fun x hx => ?_
    obtain ⟨l, -, rfl⟩ := Option.map_eq_some_iff.1 hx
    rfl
  | groupHold g => exact h.writeHold g _
  | groupTrigger g => exact h.commitGroup fun x hx => Group.withTrigger_state hx
  | sourceCloseDelay e => exact h.setSource e _
  | result => exact State.refuseWrite_safe h
  | eventCount => exact State.refuseWrite_safe h
  | headRecord => exact State.refuseWrite_safe h
  | windowEnableAtBoot w => exact State.refuseWrite_safe h
  | windowStatus w => exact State.refuseWrite_safe h
  | groupStatus g => exact State.refuseWrite_safe h
  | sourceCounter e => exact State.refuseWrite_safe h
  | sourcePhase e => exact State.refuseWrite_safe h
  | sourceCloseTimer e => exact State.refuseWrite_safe h

theorem State.Safe.writeAt {q : Prop} {s : State} (h : s.Safe q) (i : Index) (b : Byte) : (s.writeAt i b).Safe q := by
  unfold State.writeAt
  split
  · exact h
  · split
    · exact State.refuseWrite_safe h
    · split
      · exact State.refuseWrite_safe h
      · split
        · exact h.withLink id
        · exact (h.withLink (x := { s.link with staging := [] }) id).commit _ _

theorem State.Safe.writeByte {q : Prop} {s : State} (h : s.Safe q) {j : Index} (hframe : s.link.frame = .write j)
    (i : Index) (b : Byte) : (s.writeByte i b).Safe q :=
  (h.writeAt i b).withLink_open (by rw [s.writeAt_linkFrame, hframe]; simp) _

theorem State.Safe.byteAs {q : Prop} {s : State} (h : s.Safe q) (row : ByteRow) (b : Byte) : (s.byteAs row b).Safe q := by
  unfold State.byteAs
  split
  next i hframe =>
    split
    · exact h.writeByte (State.frame_of_byteFrame hframe (by simp)) i b
    · exact h
  all_goals exact h

/-! ## Commands (R164, R165) -/

/-- A command's owner keeps the promises in a part that runs commands. -/
def KeepsSafe (q : Prop) (body : State → CommandResult × State) : Prop :=
  ∀ s : State, s.Safe q → s.Awake → (body s).2.Safe q

theorem State.Safe.onWindow {q : Prop} {s : State} (h : s.Safe q) {body : WindowId → CommandResult × State}
    (hbody : ∀ w, (body w).2.Safe q) : (s.onWindow body).2.Safe q := by
  unfold State.onWindow
  split
  · exact h
  · exact hbody _

theorem State.Safe.onGroup {q : Prop} {s : State} (h : s.Safe q) {body : GroupId → CommandResult × State}
    (hbody : ∀ g, (body g).2.Safe q) : (s.onGroup body).2.Safe q := by
  unfold State.onGroup
  split
  · exact h
  · exact hbody _

theorem State.enableNamed_keepsSafe (q : Prop) : KeepsSafe q State.enableNamed :=
  fun _ h hawake => h.onWindow fun w => h.enableWindow hawake w

theorem State.disableNamed_keepsSafe (q : Prop) : KeepsSafe q State.disableNamed :=
  fun _ h _ => h.onWindow fun w => h.disableWindow w

theorem State.suspendNamed_keepsSafe (q : Prop) : KeepsSafe q State.suspendNamed :=
  fun _ h _ => h.onWindow fun w => h.suspendWindow w

theorem State.publishNamed_keepsSafe (q : Prop) : KeepsSafe q State.publishNamed :=
  fun s h hawake => h.onGroup fun g => by rw [s.publishGroup_state]; exact h.arm hawake g none

theorem State.rollbackNamed_keepsSafe (q : Prop) : KeepsSafe q State.rollbackNamed :=
  fun _ h _ => h.onGroup fun g => h.rollbackGroup g

theorem State.boundaryByCommand_keepsSafe (q : Prop) : KeepsSafe q State.boundaryByCommand :=
  fun s h _ => by
    rw [State.boundaryByCommand]
    dsimp only
    exact h.boundaryOf 2

theorem State.softResetByCommand_keepsSafe (q : Prop) : KeepsSafe q State.softResetByCommand :=
  fun s h hawake => by
    rw [State.softResetByCommand]
    dsimp only
    exact h.softResetTaken hawake

theorem State.noCommand_keepsSafe (q : Prop) : KeepsSafe q State.noCommand := fun _ h _ => h

theorem codeBody_keepsSafe (q : Prop) (code : Byte) : KeepsSafe q (codeBody code) := by
  unfold codeBody
  repeat' split
  · exact State.enableNamed_keepsSafe q
  · exact State.disableNamed_keepsSafe q
  · exact State.suspendNamed_keepsSafe q
  · exact State.publishNamed_keepsSafe q
  · exact State.rollbackNamed_keepsSafe q
  · exact State.boundaryByCommand_keepsSafe q
  · exact State.softResetByCommand_keepsSafe q
  · exact State.noCommand_keepsSafe q

/-- R164, R169, R170: a command runs in a part that no reset holds and no boot load occupies. -/
theorem State.Safe.runCommand {q : Prop} {s : State} (h : s.Safe q) {i : Index} (hframe : s.link.frame = .write i)
    (code : Byte) {body : State → CommandResult × State} (hbody : KeepsSafe q body) : (s.runCommand code body).Safe q := by
  have hne : s.link.frame ≠ .idle := by rw [hframe]; simp
  have hopen : s.resetHeld = false := h.open_of_frame hne
  have htaken : (s.takeCode code).Safe q := h.withLink_open hne _
  have hpins : (s.takeCode code).pins = s.pins := rfl
  rw [State.runCommand]
  generalize s.takeCode code = a at *
  split
  next => exact htaken.withLink id
  next hboot =>
    have hawake : a.Awake := ⟨Bool.eq_false_of_not_eq_true hboot, by rw [hpins]; exact (s.resetHeld_eq_false.1 hopen).1⟩
    exact (hbody a htaken hawake).withLink id

theorem State.Safe.command {q : Prop} {s : State} (h : s.Safe q) (code : Byte) {body : State → CommandResult × State}
    (hbody : KeepsSafe q body) : (s.command code body).Safe q := by
  unfold State.command
  split
  next hframe => exact h.runCommand (State.frame_of_byteFrame hframe (by simp)) code hbody
  next => exact h

theorem execCommandCodeNamingNoCommand_safe {q : Prop} {code : Byte} {s t : State} (h : s.Safe q)
    (hexec : execCommandCodeNamingNoCommand code s = .next t) : t.Safe q := by
  have hquiet := State.quiet_safe h
  unfold execCommandCodeNamingNoCommand at hexec
  split at hexec
  · exact hquiet.of_next hexec
  · exact (hquiet.command code (State.noCommand_keepsSafe q)).of_next hexec

/-! ## The bits of the link (R157) -/

theorem State.Safe.takeIndexByte {q : Prop} {s : State} (h : s.Safe q) {d : Direction} (hframe : s.link.frame = .index d)
    (b : Byte) : (s.takeIndexByte d b).Safe q := by
  have hne : s.link.frame ≠ .idle := by rw [hframe]; simp
  unfold State.takeIndexByte
  split
  · exact h.withLink_open hne _
  · exact h.withLink_open hne _

theorem State.Safe.takeByte {q : Prop} {s : State} (h : s.Safe q) (b : Byte) : (s.takeByte b).Safe q := by
  unfold State.takeByte
  split
  next hframe => exact h.withLink_open (by rw [hframe]; simp) _
  next d hframe => exact h.takeIndexByte hframe b
  next i hframe => exact h.takeReadByte hframe i
  next i hframe =>
    unfold State.takeWriteByte
    split
    · exact h.runCommand hframe b (codeBody_keepsSafe q b)
    · exact h.writeByte hframe i b
  next => exact h
  next => exact h

theorem State.Safe.sampleBit {q : Prop} {s : State} (h : s.Safe q) (b : Bool) : (s.sampleBit b).Safe q := by
  unfold State.sampleBit
  split
  · split
    · exact h.withLink id
    · exact (h.withLink (x := { s.link with inBits := [] }) id).takeByte _
  · exact h

theorem State.Safe.presentBit {q : Prop} {s : State} (h : s.Safe q) : s.presentBit.Safe q := by
  unfold State.presentBit
  split
  · split
    · exact h.present _
    · exact h.withLink id
  all_goals exact h

theorem State.Safe.nextEdge {q : Prop} {s t : State} (h : s.Safe q) (hedge : s.nextEdge = some t) : t.Safe q := by
  have hquiet := State.quiet_safe h
  unfold State.nextEdge at hedge
  split at hedge
  · cases hedge
  · split at hedge
    · cases hedge
      exact State.Safe.presentBit (hquiet.withPins (x := { s.quiet.pins with mclkHigh := false }) id rfl)
    · split at hedge <;> cases hedge
      next b rest _ =>
        exact State.Safe.sampleBit (hquiet.withPins (x := { s.quiet.pins with mclkHigh := true, line := rest }) id rfl) b

/-! ## Every command -/

theorem exec_safe {q : Prop} {c : Instr} {s t : State} (h : s.Safe q) (hexec : exec c s = .next t) : t.Safe q := by
  have hquiet := State.quiet_safe h
  cases c with
  | requestAcceptance r => exact execRequestAcceptance_safe h hexec
  | memGrant => exact execMemGrant_safe h hexec
  | memResponse k st data => exact execMemResponse_safe h hexec
  | memTimeout k => exact execMemTimeout_safe h hexec
  | fenceEnd k => exact execFenceEnd_safe h hexec
  | copierTake => exact execCopierTake_safe h hexec
  | holdLimitExpiry i => exact execHoldLimitExpiry_safe h hexec
  | lockLimitExpiry j => exact execLockLimitExpiry_safe h hexec
  | closeTimerExpiry e => exact execCloseTimerExpiry_safe h hexec
  | syncRisingEdge i level => exact execSyncRisingEdge_safe h hexec
  | enable => exact (hquiet.command _ (State.enableNamed_keepsSafe q)).of_next hexec
  | disable => exact (hquiet.command _ (State.disableNamed_keepsSafe q)).of_next hexec
  | suspend => exact (hquiet.command _ (State.suspendNamed_keepsSafe q)).of_next hexec
  | publish => exact (hquiet.command _ (State.publishNamed_keepsSafe q)).of_next hexec
  | rollback => exact (hquiet.command _ (State.rollbackNamed_keepsSafe q)).of_next hexec
  | boundary => exact (hquiet.command _ (State.boundaryByCommand_keepsSafe q)).of_next hexec
  | softReset => exact (hquiet.command _ (State.softResetByCommand_keepsSafe q)).of_next hexec
  | frameOpen => exact execFrameOpen_safe h hexec
  | identifierByte b => exact execIdentifierByte_safe h hexec
  | indexBytes hi lo => exact execIndexBytes_safe h hexec
  | frameEnd => exact execFrameEnd_safe h hexec
  | fieldWrite b => exact (hquiet.byteAs _ _).of_next hexec
  | windowConfigWrite b => exact (hquiet.byteAs _ _).of_next hexec
  | groupConfigWrite b => exact (hquiet.byteAs _ _).of_next hexec
  | holdWrite b => exact (hquiet.byteAs _ _).of_next hexec
  | closeDelayWrite b => exact (hquiet.byteAs _ _).of_next hexec
  | limitWrite b => exact (hquiet.byteAs _ _).of_next hexec
  | eventMaskWrite b => exact (hquiet.byteAs _ _).of_next hexec
  | overrunFlagClear => exact (hquiet.byteAs _ _).of_next hexec
  | writeRefusedFlagClear => exact (hquiet.byteAs _ _).of_next hexec
  | headRecordRemoval => exact execHeadRecordRemoval_safe h hexec
  | pwrupNFall => exact execPwrupNFall_safe h hexec
  | pwrupNRelease boot => exact execPwrupNRelease_safe h hexec
  | rstNFall => exact execRstNFall_safe h hexec
  | rstNRelease => exact execRstNRelease_safe h hexec
  | commandCodeNamingNoCommand code => exact execCommandCodeNamingNoCommand_safe h hexec

/-! ## Every step -/

theorem step_safe {q : Prop} {s t : State} (h : s.Safe q) (hstep : step s = .next t) : t.Safe q := by
  unfold step at hstep
  split at hstep
  next c rest _ =>
    have hfront : (s.withPending rest).Safe q := h.of_blocks rfl rfl rfl ⟨rfl, rfl⟩ rfl rfl id
    exact exec_safe hfront hstep
  next =>
    unfold idleStep at hstep
    split at hstep
    · exact ((State.quiet_safe h).tested.acceptStanding).of_next hstep
    · split at hstep
      · exact exec_safe h hstep
      · split at hstep
        next hedge => exact (h.nextEdge hedge).of_next hstep
        next => exact h.tick.of_next hstep

/-- Settles O6: the case of `step_safe` that asks nothing about copies and writes. -/
theorem stepKeepsInvariants : Obligations.StepKeepsInvariants :=
  fun _ _ hinv hstep => (step_safe (q := False) ⟨hinv, False.elim⟩ hstep).inv

/-- Settles O8: a copy is taken only where no write is in flight on its lines, and a write issues only where no copy
works on them; every other step keeps both. -/
theorem stepKeepsCopiesAndWritesApart : Obligations.StepKeepsCopiesAndWritesApart :=
  fun _ _ hinv hexclude hstep => (step_safe (q := True) ⟨hinv, fun _ => hexclude⟩ hstep).exclude trivial

end Sys2Proof.Machine
end

section
/-! The parts of the state that an event's own work does not read: the clock and the bits still to be sent, the requests that
stand offered, the frame state and the command result (R97, R157). -/

namespace Sys2Proof.Machine

open Sys2Proof

/-! ## A state with other parts that are not read -/

/-- A change of the parts that are not read. -/
structure Unread where
  mclkHigh : Bool → Bool
  line : List Bool → List Bool
  offered : List Request → List Request
  frame : Frame → Frame
  result : CommandResult → CommandResult

/-- The state after such a change. -/
def State.masked (s : State) (u : Unread) : State :=
  { s with
    pins := { s.pins with mclkHigh := u.mclkHigh s.pins.mclkHigh, line := u.line s.pins.line }
    port := { s.port with offered := u.offered s.port.offered }
    link := { s.link with frame := u.frame s.link.frame, result := u.result s.link.result } }

section
variable (s : State) (u : Unread)

@[simp] theorem State.masked_windows : (s.masked u).windows = s.windows := rfl
@[simp] theorem State.masked_carry : (s.masked u).carry = s.carry := rfl
@[simp] theorem State.masked_groups : (s.masked u).groups = s.groups := rfl
@[simp] theorem State.masked_timing : (s.masked u).timing = s.timing := rfl
@[simp] theorem State.masked_locks : (s.masked u).locks = s.locks := rfl
@[simp] theorem State.masked_mem : (s.masked u).mem = s.mem := rfl
@[simp] theorem State.masked_startUp : (s.masked u).startUp = s.startUp := rfl
@[simp] theorem State.masked_slots : (s.masked u).port.slots = s.port.slots := rfl
@[simp] theorem State.masked_nextAcceptance : (s.masked u).port.nextAcceptance = s.port.nextAcceptance := rfl
@[simp] theorem State.masked_offered : (s.masked u).port.offered = u.offered s.port.offered := rfl
@[simp] theorem State.masked_boot : (s.masked u).bootInProgress = s.bootInProgress := rfl
@[simp] theorem State.masked_resetHeld : (s.masked u).resetHeld = s.resetHeld := rfl

theorem State.masked_setWindow (w : WindowId) (x : Window) :
    (s.masked u).setWindow w x = (s.setWindow w x).masked u := rfl
theorem State.masked_setGroup (g : GroupId) (x : Group) : (s.masked u).setGroup g x = (s.setGroup g x).masked u := rfl
theorem State.masked_setSlot (i : Fin 8) (x : Option Transfer) : (s.masked u).setSlot i x = (s.setSlot i x).masked u := rfl
theorem State.masked_record (r : EventRecord) : (s.masked u).record r = (s.record r).masked u := rfl
theorem State.masked_respond (r : Request) (st : Status) (data : List Beat) :
    (s.masked u).respond r st data = (s.respond r st data).masked u := rfl
theorem State.masked_setLock (j : Fin 4) (x : Option Lock) : (s.masked u).setLock j x = (s.setLock j x).masked u := rfl
theorem State.masked_dropCarryWork (w : WindowId) : (s.masked u).dropCarryWork w = (s.dropCarryWork w).masked u := rfl
theorem State.masked_dropEntry (w : WindowId) (l : Nat) : (s.masked u).dropEntry w l = (s.dropEntry w l).masked u := rfl

end

theorem State.ite_masked (c : Prop) [Decidable c] (a b : State) (u : Unread) :
    (if c then a else b).masked u = if c then a.masked u else b.masked u :=
  apply_ite (State.masked · u) c a b

/-- An operation whose every step ignores the parts that are not read ignores them. -/
theorem foldl_masked {α : Type} {f : State → α → State} (u : Unread)
    (hf : ∀ (s : State) (x : α), f (s.masked u) x = (f s x).masked u) (l : List α) (s : State) :
    l.foldl f (s.masked u) = (l.foldl f s).masked u := by
  induction l generalizing s with
  | nil => rfl
  | cons x l ih => rw [List.foldl_cons, hf, ih, List.foldl_cons]

section
variable (s : State) (u : Unread)

/-! ## Answers -/

theorem State.masked_recordAll (r : Option EventRecord) : (s.masked u).recordAll r = (s.recordAll r).masked u := by
  cases r <;> rfl

theorem State.masked_arm (g : GroupId) (m : Option MasterId) : (s.masked u).arm g m = (s.arm g m).masked u := by
  unfold State.arm
  cases h : s.groups[g].state <;> simp only [State.masked_groups, h] <;> rfl

theorem State.masked_settleLock (r : Request) (st : Status) : (s.masked u).settleLock r st = (s.settleLock r st).masked u := by
  unfold State.settleLock
  split <;> rfl

theorem State.masked_answerNow (r : Request) (st : Status) : (s.masked u).answerNow r st = (s.answerNow r st).masked u :=
  State.masked_settleLock (s.respond r st []) u r st

theorem State.masked_uncount (t : Transfer) : (s.masked u).uncount t = (s.uncount t).masked u := by
  unfold State.uncount
  split <;> rfl

theorem State.masked_armByAnswer (t : Transfer) (st : Status) : (s.masked u).armByAnswer t st = (s.armByAnswer t st).masked u := by
  unfold State.armByAnswer
  split
  · exact s.masked_arm u _ _
  · rfl

theorem State.masked_answer (i : Fin 8) (st : Status) (data : List Beat) :
    (s.masked u).answer i st data = (s.answer i st data).masked u := by
  unfold State.answer
  cases h : s.port.slots[i] with
  | none => simp only [State.masked_slots, h]
  | some t =>
    simp only [State.masked_slots, h, State.masked_setSlot, State.masked_respond, State.masked_uncount,
      State.masked_settleLock, State.masked_armByAnswer]

/-! ## The test after an event -/

theorem State.masked_makeEntry (t : Transfer) : (s.masked u).makeEntry t = (s.makeEntry t).masked u := by
  have hneed : (s.masked u).demandNeed t = s.demandNeed t := rfl
  unfold State.makeEntry
  rw [hneed]
  cases s.demandNeed t with
  | none => rfl
  | some d =>
    dsimp only
    rw [State.ite_masked]
    rfl

theorem State.masked_insertByAge (i : Fin 8) (l : List (Fin 8)) : (s.masked u).insertByAge i l = s.insertByAge i l := by
  induction l with
  | nil => rfl
  | cons j l ih => simp only [State.insertByAge, State.masked_slots, ih]

theorem State.masked_slotsByAge : (s.masked u).slotsByAge = s.slotsByAge := by
  unfold State.slotsByAge
  rw [funext fun i => funext fun l => s.masked_insertByAge u i l, State.masked_slots]

theorem State.masked_makeEntries : (s.masked u).makeEntries = s.makeEntries.masked u := by
  unfold State.makeEntries
  rw [State.masked_slotsByAge]
  refine foldl_masked u (fun a i => ?_) _ _
  cases h : a.port.slots[i] with
  | none => simp only [State.masked_slots, h]
  | some t => simp only [State.masked_slots, h, State.ite_masked, State.masked_makeEntry]

theorem State.masked_retest : (s.masked u).retest = s.retest.masked u := by
  unfold State.retest
  rw [State.masked_makeEntries]
  rfl

/-! ## Acceptance -/

theorem State.masked_countRead (t : Transfer) : (s.masked u).countRead t = (s.countRead t).masked u := by
  unfold State.countRead
  split <;> rfl

theorem State.masked_takeLock (r : Request) : (s.masked u).takeLock r = (s.takeLock r).masked u := by
  have hlock : (s.masked u).lockOn r.address = s.lockOn r.address := rfl
  have hfree : (s.masked u).freeLock = s.freeLock := rfl
  unfold State.takeLock
  rw [hlock, hfree]
  split
  · split <;> rfl
  · rfl

theorem State.masked_finishRouting (i : Fin 8) (r : Request) (result : Routing) :
    (s.masked u).finishRouting i r result = (s.finishRouting i r result).masked u := by
  cases result with
  | answer st record => exact (congrArg (State.answerNow · r st) (s.masked_recordAll u record)).trans (State.masked_answerNow _ u r st)
  | keep t =>
    unfold State.finishRouting
    dsimp only
    rw [State.masked_setSlot, State.masked_countRead, State.masked_takeLock, State.masked_retest]

theorem State.masked_routing (r : Request) (n : Nat) : (s.masked u).routing r n = s.routing r n := rfl

theorem State.masked_interlockAndRoute (i : Fin 8) (r : Request) (n : Nat) :
    (s.masked u).interlockAndRoute i r n = (s.interlockAndRoute i r n).masked u := by
  have htest : (s.masked u).lockTest r = s.lockTest r := rfl
  unfold State.interlockAndRoute
  rw [htest, State.masked_routing]
  split
  · rfl
  · rfl
  · exact s.masked_finishRouting u i r _
  · rw [State.masked_setLock]
    exact State.masked_finishRouting _ u i r _

theorem State.masked_checkRequest (i : Fin 8) (r : Request) (n : Nat) :
    (s.masked u).checkRequest i r n = (s.checkRequest i r n).masked u := by
  have houtstanding : (s.masked u).outstanding r = s.outstanding r := rfl
  have hplace : (s.masked u).place r.address = s.place r.address := rfl
  unfold State.checkRequest
  rw [State.masked_boot, houtstanding, hplace]
  repeat' split
  · rfl
  · rfl
  · rfl
  · rfl
  · exact s.masked_interlockAndRoute u i r n
  · exact s.masked_interlockAndRoute u i r n

theorem State.masked_accept (i : Fin 8) (r : Request) : (s.masked u).accept i r = (s.accept i r).masked u :=
  State.masked_checkRequest (s.withPort { s.port with nextAcceptance := s.port.nextAcceptance + 1 }) u i r _

end

/-- R97: what stands offered decides alone which requests are accepted. -/
theorem State.masked_acceptUpTo (n : Nat) (s : State) {u : Unread} (hoffered : u.offered = id) :
    State.acceptUpTo n (s.masked u) = (State.acceptUpTo n s).masked u := by
  induction n generalizing s with
  | zero => rfl
  | succ n ih =>
    have hnext : (s.masked u).nextAccepted = s.nextAccepted := by
      simp only [State.nextAccepted, State.masked_resetHeld, State.masked_offered, State.freeSlot, State.masked_slots,
        hoffered, id_eq]
    unfold State.acceptUpTo
    rw [hnext]
    split
    · rfl
    next i r rest _ =>
      have hrest : (s.masked u).withPort { (s.masked u).port with offered := rest } =
          (s.withPort { s.port with offered := rest }).masked u := by
        unfold State.masked
        rw [hoffered]
        rfl
      rw [hrest, State.masked_accept, ih]

theorem State.masked_acceptStanding (s : State) {u : Unread} (hoffered : u.offered = id) :
    (s.masked u).acceptStanding = s.acceptStanding.masked u := by
  unfold State.acceptStanding
  rw [State.masked_offered, hoffered]
  exact State.masked_acceptUpTo _ s hoffered

end Sys2Proof.Machine
end

section
/-! Operations of the blocks that ignore the parts that are not read: the window unit, publication, copies, memory and the
boot load. -/

namespace Sys2Proof.Machine

open Sys2Proof

section
variable (s : State) (u : Unread)

/-! ## The window unit -/

theorem State.masked_testRollback (g : GroupId) : (s.masked u).testRollback g = (s.testRollback g).masked u := by
  have hclean : (s.masked u).membersClean g = s.membersClean g := rfl
  unfold State.testRollback
  rw [hclean, State.ite_masked]
  rfl

theorem State.masked_testRollbacks : (s.masked u).testRollbacks = s.testRollbacks.masked u :=
  foldl_masked u (fun a g => a.masked_testRollback u g) _ s

theorem State.masked_blockGroup (g : GroupId) : (s.masked u).blockGroup g = (s.blockGroup g).masked u := by
  unfold State.blockGroup
  cases h : s.groups[g].state <;> simp only [State.masked_groups, h] <;> rfl

theorem State.masked_unblockGroup (g : GroupId) : (s.masked u).unblockGroup g = (s.unblockGroup g).masked u := by
  have hfaulted : (s.masked u).memberFaulted g = s.memberFaulted g := rfl
  unfold State.unblockGroup
  cases h : s.groups[g].state <;> simp only [State.masked_groups, h, hfaulted, State.ite_masked] <;> rfl

theorem State.masked_settleSlot (p : Address → Bool) (st : Status) (i : Fin 8) :
    State.settleSlot p st (s.masked u) i = (State.settleSlot p st s i).masked u := by
  unfold State.settleSlot
  cases h : s.port.slots[i] with
  | none => simp only [State.masked_slots, h]
  | some t => simp only [State.masked_slots, h, State.ite_masked, State.masked_answer]

theorem State.masked_settleWrites (p : Address → Bool) (st : Status) :
    (s.masked u).settleWrites p st = (s.settleWrites p st).masked u :=
  foldl_masked u (fun a i => a.masked_settleSlot u p st i) _ s

theorem State.masked_endCarry (w : WindowId) : (s.masked u).endCarry w = (s.endCarry w).masked u := by
  unfold State.endCarry
  rw [State.ite_masked]
  cases h : s.windows[w].state <;> simp only [State.masked_windows, h] <;> rfl

theorem State.masked_faultWindow (w : WindowId) (a : Address) :
    (s.masked u).faultWindow w a = (s.faultWindow w a).masked u := by
  unfold State.faultWindow
  simp only [State.masked_windows, State.masked_setWindow, State.masked_settleWrites, State.masked_dropCarryWork,
    State.masked_record, State.masked_blockGroup, State.masked_testRollbacks]

/-! ## Publication -/

theorem State.masked_takeBoundary (g : GroupId) (n : Epoch) : (s.masked u).takeBoundary g n = (s.takeBoundary g n).masked u := by
  have hgate : (s.masked u).gatePasses g = s.gatePasses g := rfl
  have hflip : (s.masked u).flipGroup g n = (s.flipGroup g n).masked u := rfl
  unfold State.takeBoundary
  cases h : s.groups[g].state with
  | opened => simp only [State.masked_groups, h]
  | blocked => simp only [State.masked_groups, h]
  | armed countdown late =>
    cases countdown <;>
      simp only [State.masked_groups, h, hgate, hflip, State.ite_masked, State.masked_setGroup, State.masked_record]
      <;> rfl

theorem State.masked_boundaryAtGroups (e : SourceId) (n : Epoch) :
    (s.masked u).boundaryAtGroups e n = (s.boundaryAtGroups e n).masked u := by
  refine foldl_masked u (fun a g => ?_) _ s
  unfold State.boundaryAtGroup
  rw [State.ite_masked, State.masked_takeBoundary]
  rfl

theorem State.masked_boundaryOf (e : SourceId) : (s.masked u).boundaryOf e = (s.boundaryOf e).masked u := by
  have hsource : (s.masked u).setSource e s.timing.sources[e].atBoundary =
      (s.setSource e s.timing.sources[e].atBoundary).masked u := rfl
  unfold State.boundaryOf
  simp only [State.masked_timing, hsource, State.masked_boundaryAtGroups, State.masked_retest]

theorem State.masked_dropArming (g : GroupId) : (s.masked u).dropArming g = (s.dropArming g).masked u := by
  unfold State.dropArming
  cases h : s.groups[g].state <;> simp only [State.masked_groups, h] <;> rfl

theorem State.masked_rollbackGroup (g : GroupId) : (s.masked u).rollbackGroup g = (s.rollbackGroup g).masked u := by
  have hmembers : (s.masked u).rollBackMembers g = (s.rollBackMembers g).masked u := rfl
  unfold State.rollbackGroup
  simp only [hmembers, State.masked_dropArming, State.masked_groups, State.masked_setGroup, State.masked_testRollbacks,
    State.masked_retest]

theorem State.masked_writeHold (g : GroupId) (hold : Bool) : (s.masked u).writeHold g hold = (s.writeHold g hold).masked u := by
  have hclosed : (s.masked u).sourceClosed g = s.sourceClosed g := rfl
  unfold State.writeHold
  simp only [State.ite_masked]
  cases h : s.groups[g].state <;> simp only [State.masked_groups, h, hclosed, State.masked_setGroup]

/-! ## Copies -/

theorem State.masked_takeLine (c : Fin 2) (w : WindowId) (line : Nat) (o : CopyOrigin) :
    (s.masked u).takeLine c w line o = (s.takeLine c w line o).masked u := by
  unfold State.takeLine
  exact State.masked_retest ((s.setCopier c (.busy (s.copyOf w line o))).withCarry
    { (s.setCopier c (.busy (s.copyOf w line o))).carry with nextTake := s.carry.nextTake + 1 }) u

theorem State.masked_lineCopied (w : WindowId) (line : Nat) :
    (s.masked u).lineCopied w line = (s.lineCopied w line).masked u := by
  unfold State.lineCopied
  simp only [State.masked_windows, State.masked_setWindow, State.masked_dropEntry, State.masked_endCarry,
    State.masked_testRollbacks]

theorem State.masked_freeCopier (c : Fin 2) : (s.masked u).freeCopier c = (s.freeCopier c).masked u := rfl

theorem State.masked_copyOkay (c : Fin 2) (k : CopyRecord) (data : List Beat) :
    (s.masked u).copyOkay c k data = (s.copyOkay c k data).masked u := by
  unfold State.copyOkay
  cases k.phase with
  | reading => rfl
  | writing => exact State.masked_lineCopied (s.freeCopier c) u k.window k.line

theorem State.masked_copyResult (c : Fin 2) (ok : Bool) (data : List Beat) :
    (s.masked u).copyResult c ok data = (s.copyResult c ok data).masked u := by
  unfold State.copyResult
  cases h : s.carry.copiers[c] with
  | idle => simp only [State.masked_carry, h]
  | busy k =>
    simp only [State.masked_carry, h, State.ite_masked, State.masked_freeCopier, State.masked_copyOkay,
      State.masked_faultWindow]

/-! ## Grants and results -/

theorem State.masked_stageLine (t : Transfer) (w : WindowId) : (s.masked u).stageLine t w = (s.stageLine t w).masked u := by
  have hcancels : (s.masked u).cancels t = s.cancels t := rfl
  unfold State.stageLine
  simp only [State.masked_windows, hcancels, State.ite_masked, State.masked_setWindow, State.masked_dropEntry,
    State.masked_endCarry, State.masked_testRollbacks]

theorem State.masked_issueSteps (t : Transfer) : (s.masked u).issueSteps t = (s.issueSteps t).masked u := by
  unfold State.issueSteps
  split
  · rw [State.ite_masked, State.masked_stageLine]
  · rfl

theorem State.masked_issue (o : Owner) :
    (s.masked u).issue o = (s.issue o).map fun x => (x.1, x.2.masked u) := by
  cases o with
  | startUp =>
    unfold State.issue
    simp only [State.masked_startUp, Option.map_map]
    rfl
  | copier c =>
    unfold State.issue
    cases h : s.carry.copiers[c] <;> simp only [State.masked_carry, h] <;> rfl
  | transfer i part =>
    cases part with
    | first =>
      unfold State.issue
      cases h : s.port.slots[i] with
      | none => simp only [State.masked_slots, h, Option.map_none]
      | some t =>
        have hissued : (s.masked u).issuedTransfer t = s.issuedTransfer t := rfl
        simp only [State.masked_slots, h, Option.map_some, hissued, State.masked_setSlot, State.masked_issueSteps]
        rfl
    | shadow =>
      unfold State.issue
      cases h : s.port.slots[i] with
      | none => simp only [State.masked_slots, h, Option.map_none]
      | some t => cases hshadow : t.shadow <;> simp only [State.masked_slots, h, hshadow] <;> rfl

theorem State.masked_chooseRequest : (s.masked u).chooseRequest = s.chooseRequest := by
  have hboot : (s.masked u).chooseBoot = s.chooseBoot := rfl
  have hcopy (cls : RequestClass) : (s.masked u).chooseCopy cls = s.chooseCopy cls := rfl
  have hupstream : (s.masked u).chooseUpstream = s.chooseUpstream := by
    unfold State.chooseUpstream
    rw [State.masked_slotsByAge]
    rfl
  unfold State.chooseRequest
  simp only [hboot, hcopy, hupstream, State.masked_mem]

theorem State.masked_nextGrant : (s.masked u).nextGrant = s.nextGrant := by
  have hfree : (s.masked u).freeMemSlot = s.freeMemSlot := rfl
  unfold State.nextGrant
  rw [hfree, State.masked_chooseRequest]

theorem State.masked_grant (k : Fin 12) (cls : RequestClass) (o : Owner) :
    (s.masked u).grant k cls o = (s.grant k cls o).masked u := by
  have hshare : (s.masked u).shareAfter cls = s.shareAfter cls := rfl
  unfold State.grant
  rw [State.masked_issue, hshare]
  cases s.issue o with
  | none => rfl
  | some x => exact State.masked_retest (x.2.enterSlot k x.1 o (s.shareAfter cls)) u

theorem State.masked_transferResult (i : Fin 8) (part : TransferPart) (ok : Bool) (data : List Beat) :
    (s.masked u).transferResult i part ok data = (s.transferResult i part ok data).masked u := by
  unfold State.transferResult
  cases h : s.port.slots[i] with
  | none => simp only [State.masked_slots, h]
  | some t => simp only [State.masked_slots, h, State.masked_setSlot, State.ite_masked, State.masked_answer]

theorem State.masked_countFree (isOpen : Bool) : (s.masked u).countFree isOpen = (s.countFree isOpen).masked u := by
  unfold State.countFree
  rw [State.ite_masked]
  rfl

/-! ## The boot load and resets -/

theorem State.masked_endBoot (r : EventRecord) : (s.masked u).endBoot r = (s.endBoot r).masked u := rfl

theorem State.masked_bootNextRead (bytes : List Byte) : (s.masked u).bootNextRead bytes = (s.bootNextRead bytes).masked u := rfl

theorem State.masked_bootPointer (data : List Beat) : (s.masked u).bootPointer data = (s.bootPointer data).masked u := by
  unfold State.bootPointer
  simp only [State.ite_masked]
  rfl

theorem State.masked_applyImage (bytes : List Byte) : (s.masked u).applyImage bytes = (s.applyImage bytes).masked u := by
  have hgroup (a : State) (i : Nat) :
      State.applyGroupRecord bytes (a.masked u) i = (State.applyGroupRecord bytes a i).masked u := by
    unfold State.applyGroupRecord
    split <;> rfl
  have hwindow (a : State) (i : Nat) :
      State.applyWindowRecord bytes (a.masked u) i = (State.applyWindowRecord bytes a i).masked u := by
    unfold State.applyWindowRecord
    split <;> rfl
  unfold State.applyImage
  rw [foldl_masked u hgroup, foldl_masked u hwindow]

theorem State.masked_lineReleased : (s.masked u).lineReleased = s.lineReleased.masked u := by
  have hstartUp : ((s.masked u).record (.reset .line)).startUp = (s.record (.reset .line)).startUp := rfl
  unfold State.lineReleased
  cases h : (s.record (.reset .line)).startUp.state <;> simp only [hstartUp, h] <;> rfl

end

end Sys2Proof.Machine
end

section
/-! Operations that end with the acceptance of what stands offered: their work is the same whatever stands offered, and
acceptance comes after it (R97). -/

namespace Sys2Proof.Machine

open Sys2Proof

/-! ## Work and what follows it -/

/-- A change of the parts that are not read, at the ports: the clock and its bits, and what stands offered. -/
def Unread.ports (h : Bool → Bool) (l : List Bool → List Bool) (x : List Request → List Request) : Unread :=
  { mclkHigh := h, line := l, offered := x, frame := id, result := id }

/-- The end of an operation: the acceptance of what stands offered, where the operation has it. -/
def State.finish (s : State) (accepts : Bool) : State := if accepts then s.acceptStanding else s

/-- States that one operation gives for each value of the parts at the ports: its work is the same for all of them, and then
it may accept what stands offered. -/
def Late (f : Unread → State) : Prop :=
  ∃ (t : State) (accepts : Bool), ∀ h l x, f (.ports h l x) = (t.masked (.ports h l x)).finish accepts

/-- The same for an operation that gives a command result too. -/
def LateCommand (f : Unread → CommandResult × State) : Prop :=
  ∃ (r : CommandResult) (t : State) (accepts : Bool), ∀ h l x,
    f (.ports h l x) = (r, (t.masked (.ports h l x)).finish accepts)

theorem Late.of_masked {f : Unread → State} {t : State} (hf : ∀ u, f u = t.masked u) : Late f :=
  ⟨t, false, fun _ _ _ => hf _⟩

theorem Late.of_accepting {f : Unread → State} {t : State} (hf : ∀ u, f u = (t.masked u).acceptStanding) : Late f :=
  ⟨t, true, fun _ _ _ => hf _⟩

theorem Late.of_eq {f g : Unread → State} (h : ∀ u, f u = g u) (hg : Late g) : Late f := by
  rwa [funext h]

theorem LateCommand.of_eq {f g : Unread → CommandResult × State} (h : ∀ u, f u = g u) (hg : LateCommand g) :
    LateCommand f := by
  rwa [funext h]

theorem LateCommand.of_late {f : Unread → State} (r : CommandResult) (h : Late f) : LateCommand fun u => (r, f u) := by
  obtain ⟨t, accepts, hwork⟩ := h
  exact ⟨r, t, accepts, fun _ _ _ => congrArg (Prod.mk r) (hwork _ _ _)⟩

theorem LateCommand.of_masked (r : CommandResult) (t : State) : LateCommand fun u => (r, t.masked u) :=
  .of_late r (.of_masked fun _ => rfl)

/-- R97: acceptance writes no frame state. -/
theorem State.finish_withFrame (s : State) (accepts : Bool) (f : Frame) :
    (s.finish accepts).withLink { (s.finish accepts).link with frame := f } =
      (s.withLink { s.link with frame := f }).finish accepts := by
  cases accepts with
  | false => rfl
  | true => exact (s.masked_acceptStanding (u := ⟨id, id, id, fun _ => f, id⟩) rfl).symm

/-- R97: acceptance writes no command result. -/
theorem State.finish_withResult (s : State) (accepts : Bool) (r : CommandResult) :
    (s.finish accepts).withResult r = (s.withResult r).finish accepts := by
  cases accepts with
  | false => rfl
  | true => exact (s.masked_acceptStanding (u := ⟨id, id, id, id, fun _ => r⟩) rfl).symm

/-- R97: the clock and its bits do not enter acceptance. -/
theorem State.masked_finish (s : State) (accepts : Bool) (h : Bool → Bool) (l : List Bool → List Bool) :
    (s.masked (.ports h l id)).finish accepts = (s.finish accepts).masked (.ports h l id) := by
  cases accepts with
  | false => rfl
  | true => exact s.masked_acceptStanding rfl

/-! ## Commands on a window -/

section
variable (s : State)

theorem State.enableTaken_late (w : WindowId) : Late fun u => (s.masked u).enableTaken w := by
  refine .of_accepting (t := (((s.setWindow w { s.windows[w] with
    state := .seeding, dirty := [], carry := s.windows[w].everyLine, faultAddress := none }).settleWrites
      s.windows[w].inRanges .retry).unblockGroup s.windows[w].group).retest) fun u => ?_
  unfold State.enableTaken
  simp only [State.masked_windows, State.masked_setWindow, State.masked_settleWrites, State.masked_unblockGroup,
    State.masked_retest]

theorem State.changeState_late (w : WindowId) (x : Window) : Late fun u => (s.masked u).changeState w x := by
  refine .of_accepting (t := (((((s.setWindow w x).settleWrites s.windows[w].inRanges .retry).dropCarryWork
    w).unblockGroup s.windows[w].group).testRollbacks).retest) fun u => ?_
  unfold State.changeState
  simp only [State.masked_windows, State.masked_setWindow, State.masked_settleWrites, State.masked_dropCarryWork,
    State.masked_unblockGroup, State.masked_testRollbacks, State.masked_retest]

theorem State.enableWindow_late (w : WindowId) : LateCommand fun u => (s.masked u).enableWindow w := by
  have htest (u : Unread) : (s.masked u).enableTest w = s.enableTest w := rfl
  by_cases haccepted : s.enableTest w = .accepted
  · refine .of_eq (fun u => ?_) (.of_late .accepted (s.enableTaken_late w))
    simp only [State.enableWindow, htest, haccepted]
  · refine .of_eq (fun u => ?_) (.of_masked (s.enableTest w) s)
    unfold State.enableWindow
    rw [htest]
    split
    next h => exact absurd h haccepted
    next => rfl

theorem State.disableWindow_late (w : WindowId) : LateCommand fun u => (s.masked u).disableWindow w := by
  have hchange := s.changeState_late w s.windows[w].disabledBy
  unfold State.disableWindow
  cases h : s.windows[w].state <;> simp only [State.masked_windows, h]
  case disabled => exact .of_masked _ s
  case homing => exact .of_masked _ s
  all_goals exact .of_late _ hchange

theorem State.suspendWindow_late (w : WindowId) : LateCommand fun u => (s.masked u).suspendWindow w := by
  have hchange := s.changeState_late w s.windows[w].suspendedBy
  unfold State.suspendWindow
  cases h : s.windows[w].state <;> simp only [State.masked_windows, h]
  case suspended => exact .of_masked _ s
  case disabled => exact .of_masked _ s
  case homing => exact .of_masked _ s
  all_goals exact .of_late _ hchange

theorem State.publishGroup_late (g : GroupId) : LateCommand fun u => (s.masked u).publishGroup g := by
  unfold State.publishGroup
  cases h : s.groups[g].state <;> simp only [State.masked_groups, h, State.masked_arm] <;> exact .of_masked _ _

theorem State.softResetTaken_late : Late fun u => (s.masked u).softResetTaken :=
  .of_accepting (t := (s.resetBlocks.withTiming { s.resetBlocks.timing with
    sources := mapTable (fun _ r => r.afterSoftReset) s.resetBlocks.timing.sources }).record (.reset .soft)) fun _ => rfl

/-! ## The commands of the link -/

theorem State.onWindow_late {body : State → WindowId → CommandResult × State}
    (h : ∀ w, LateCommand fun u => body (s.masked u) w) : LateCommand fun u => (s.masked u).onWindow (body (s.masked u)) := by
  have hargument (u : Unread) : (s.masked u).link.argument = s.link.argument := rfl
  unfold State.onWindow
  cases hw : windowOf s.link.argument.toNat <;> simp only [hargument, hw]
  · exact .of_masked _ s
  · exact h _

theorem State.onGroup_late {body : State → GroupId → CommandResult × State}
    (h : ∀ g, LateCommand fun u => body (s.masked u) g) : LateCommand fun u => (s.masked u).onGroup (body (s.masked u)) := by
  have hargument (u : Unread) : (s.masked u).link.argument = s.link.argument := rfl
  unfold State.onGroup
  cases hg : groupOf s.link.argument.toNat <;> simp only [hargument, hg]
  · exact .of_masked _ s
  · exact h _

theorem codeBody_late (code : Byte) : LateCommand fun u => codeBody code (s.masked u) := by
  unfold codeBody
  repeat' split
  · exact s.onWindow_late (body := State.enableWindow) s.enableWindow_late
  · exact s.onWindow_late (body := State.disableWindow) s.disableWindow_late
  · exact s.onWindow_late (body := State.suspendWindow) s.suspendWindow_late
  · exact s.onGroup_late (body := State.publishGroup) s.publishGroup_late
  · refine s.onGroup_late (body := fun a g => (.accepted, a.rollbackGroup g)) fun g => ?_
    exact .of_late .accepted (.of_masked fun u => s.masked_rollbackGroup u g)
  · exact .of_late .accepted (.of_masked fun u => s.masked_boundaryOf u 2)
  · exact .of_late .accepted s.softResetTaken_late
  · exact .of_masked _ s

theorem State.takeCode_masked (code : Byte) (h : Bool → Bool) (l : List Bool → List Bool)
    (x : List Request → List Request) :
    (s.masked (.ports h l x)).takeCode code = (s.takeCode code).masked (.ports h l x) := rfl

theorem State.withResult_masked (r : CommandResult) (h : Bool → Bool) (l : List Bool → List Bool)
    (x : List Request → List Request) :
    (s.masked (.ports h l x)).withResult r = (s.withResult r).masked (.ports h l x) := rfl

theorem State.runCommand_late (code : Byte) {body : State → CommandResult × State}
    (hbody : LateCommand fun u => body ((s.takeCode code).masked u)) : Late fun u => (s.masked u).runCommand code body := by
  obtain ⟨r, t, accepts, hwork⟩ := hbody
  unfold State.runCommand
  by_cases hboot : (s.takeCode code).bootInProgress = true
  · refine ⟨(s.takeCode code).withResult .refusedBoot, false, fun h l x => ?_⟩
    simp only [State.takeCode_masked, State.masked_boot, hboot, if_true, State.withResult_masked]
    rfl
  · refine ⟨t.withResult r, accepts, fun h l x => ?_⟩
    simp only [State.takeCode_masked, State.masked_boot, hboot, hwork, State.finish_withResult, State.withResult_masked]
    rfl

end

end Sys2Proof.Machine
end

section
/-! The data bytes of a write frame ignore the clock and what stands offered, but for the acceptance that ends a change of a
window's ranges (R160, R186); with that, the bits of the link make the bytes of the rows (R157). -/

namespace Sys2Proof.Machine

open Sys2Proof

section
variable (s : State)

/-! ## Commits -/

theorem State.masked_refuseWrite (u : Unread) : (s.masked u).refuseWrite = s.refuseWrite.masked u := rfl

theorem State.settleRangeChange_late (w : WindowId) (before after : Window) :
    Late fun u => (s.masked u).settleRangeChange w before after := by
  unfold State.settleRangeChange
  split
  · exact .of_masked fun _ => rfl
  · refine .of_accepting (t := ((s.setWindow w after).settleWrites
      (fun a => before.inRanges a || after.inRanges a) .retry).retest) fun u => ?_
    rw [State.masked_setWindow, State.masked_settleWrites, State.masked_retest]

theorem State.commitRange_late (w : WindowId) (y : Window) : Late fun u => (s.masked u).commitRange w y := by
  unfold State.commitRange
  cases h : s.windows[w].state <;> simp only [State.masked_windows, h]
  case disabled => exact .of_masked (s.masked_setWindow · w y)
  case suspended =>
    split
    · exact s.settleRangeChange_late w s.windows[w] y
    · exact .of_masked s.masked_refuseWrite
  all_goals exact .of_masked s.masked_refuseWrite

theorem State.commitMode_late (w : WindowId) (y : Option Window) : Late fun u => (s.masked u).commitMode w y := by
  have hset (x : Window) : Late fun u => ((s.masked u).setWindow w x).testRollbacks :=
    .of_masked fun u => (s.setWindow w x).masked_testRollbacks u
  unfold State.commitMode
  cases h : s.windows[w].state <;> cases y <;> simp only [State.masked_windows, h]
  case disabled.some => exact hset _
  case suspended.some => exact hset _
  all_goals exact .of_masked s.masked_refuseWrite

theorem State.commitGroup_late (g : GroupId) (y : Option Group) : Late fun u => (s.masked u).commitGroup g y := by
  unfold State.commitGroup
  cases h : s.groups[g].state <;> cases y <;> simp only [State.masked_groups, h]
  case opened.some x => exact .of_masked (s.masked_setGroup · g x)
  all_goals exact .of_masked s.masked_refuseWrite

theorem State.commitLimit_late (v : Nat) (f : Link → Link)
    (hf : ∀ u : Unread, (s.masked u).withLink (f (s.masked u).link) = (s.withLink (f s.link)).masked u) :
    Late fun u => (s.masked u).commitLimit v (f (s.masked u).link) := by
  unfold State.commitLimit
  split
  · exact .of_masked s.masked_refuseWrite
  · exact .of_masked hf

theorem State.commit_late (f : Field) (v : Nat) : Late fun u => (s.masked u).commit f v := by
  have hrefused : Late fun u => (s.masked u).refuseWrite := .of_masked s.masked_refuseWrite
  cases f with
  | argument => exact .of_masked (t := s.commit (.argument) v) fun _ => rfl
  | code => exact .of_masked fun _ => rfl
  | writeRefused =>
    refine .of_masked (t := s.commit .writeRefused v) fun u => ?_
    show (if v = 0 then _ else _) = (if v = 0 then _ else _ : State).masked u
    rw [State.ite_masked]
    rfl
  | holdLimit => exact s.commitLimit_late v (fun l => { l with holdLimit := BitVec.ofNat 16 v }) fun _ => rfl
  | lockLimit => exact s.commitLimit_late v (fun l => { l with lockLimit := BitVec.ofNat 16 v }) fun _ => rfl
  | memoryLimit => exact s.commitLimit_late v (fun l => { l with memoryLimit := BitVec.ofNat 16 v }) fun _ => rfl
  | eventMask => exact .of_masked (t := s.commit (.eventMask) v) fun _ => rfl
  | overrun =>
    refine .of_masked (t := s.commit .overrun v) fun u => ?_
    show (if v = 0 then _ else _) = (if v = 0 then _ else _ : State).masked u
    rw [State.ite_masked]
    rfl
  | windowBase w => exact s.commitRange_late w { s.windows[w] with base := BitVec.ofNat 32 v }
  | windowTwin w => exact s.commitRange_late w { s.windows[w] with twin := BitVec.ofNat 32 v }
  | windowSizeCode w => exact s.commitRange_late w { s.windows[w] with sizeCode := BitVec.ofNat 8 v }
  | windowGroup w => exact s.commitMode_late w ((groupOf v).map fun g => { s.windows[w] with group := g })
  | windowPolicy w => exact s.commitMode_late w ((policyOf v).map fun p => { s.windows[w] with policy := p })
  | groupProducers g => exact s.commitGroup_late g (some { s.groups[g] with producers := BitVec.ofNat 16 v })
  | groupSource g => exact s.commitGroup_late g ((sourceOf v).map fun e => { s.groups[g] with source := e })
  | groupLag g => exact s.commitGroup_late g ((lagOf v).map fun l => { s.groups[g] with lag := l })
  | groupHold g => exact .of_masked fun u => s.masked_writeHold u g _
  | groupTrigger g => exact s.commitGroup_late g (s.groups[g].withTrigger v)
  | sourceCloseDelay e => exact .of_masked (t := s.commit (.sourceCloseDelay e) v) fun _ => rfl
  | result => exact hrefused
  | eventCount => exact hrefused
  | headRecord => exact hrefused
  | windowEnableAtBoot w => exact hrefused
  | windowStatus w => exact hrefused
  | groupStatus g => exact hrefused
  | sourceCounter e => exact hrefused
  | sourcePhase e => exact hrefused
  | sourceCloseTimer e => exact hrefused

/-! ## Bytes written -/

/-- R160: a value is composed from the fields, which show nothing of the clock or of what stands offered. -/
theorem State.composed_ports (f : Field) (i : Index) (staging : List (Index × Byte)) (h : Bool → Bool)
    (l : List Bool → List Bool) (x : List Request → List Request) :
    (s.masked (.ports h l x)).composed f i staging = s.composed f i staging := rfl

theorem State.writeAt_late (i : Index) (b : Byte) : Late fun u => (s.masked u).writeAt i b := by
  unfold State.writeAt
  cases hfield : fieldAt i with
  | none => exact .of_masked fun _ => rfl
  | some place =>
    obtain ⟨f, o⟩ := place
    dsimp only
    by_cases hreadOnly : f.readOnly = true
    · exact .of_eq (fun _ => if_pos hreadOnly) (.of_masked s.masked_refuseWrite)
    refine .of_eq (fun _ => if_neg hreadOnly) ?_
    by_cases hboot : (s.bootInProgress && !f.openInBoot) = true
    · exact .of_eq (fun _ => if_pos hboot) (.of_masked s.masked_refuseWrite)
    refine .of_eq (fun _ => if_neg hboot) ?_
    by_cases hstaged : o + 1 < f.width
    · refine .of_eq (fun _ => if_pos hstaged) ?_
      exact .of_masked (t := s.withLink { s.link with staging := (i, b) :: s.link.staging }) fun _ => rfl
    · refine .of_eq (fun _ => if_neg hstaged) ?_
      obtain ⟨t, accepts, hwork⟩ := (s.withLink { s.link with staging := [] }).commit_late f
        (s.composed f (i - BitVec.ofNat 16 o) ((i, b) :: s.link.staging))
      exact ⟨t, accepts, hwork⟩

theorem State.writeByte_late (i : Index) (b : Byte) : Late fun u => (s.masked u).writeByte i b := by
  obtain ⟨t, accepts, hwork⟩ := s.writeAt_late i b
  refine ⟨t.withLink { t.link with frame := .write (i + 1) }, accepts, fun h l x => ?_⟩
  unfold State.writeByte
  simp only [hwork, State.finish_withFrame]
  rfl

end

end Sys2Proof.Machine
end

section
/-! The bits of a frame make the bytes of the rows (R157 to R160). -/

namespace Sys2Proof.Machine

open Sys2Proof

/-! ## The edges of MCLK -/

theorem State.withClock_eq_masked (s : State) (high : Bool) (line : List Bool) :
    s.withClock high line = s.masked (.ports (fun _ => high) (fun _ => line) id) := rfl

/-- Work that is the same whatever the clock is commutes with it. -/
theorem Late.withClock {f : State → State} {s : State} (h : Late fun u => f (s.masked u)) (high : Bool) (line : List Bool) :
    f (s.withClock high line) = (f s).withClock high line := by
  obtain ⟨t, accepts, hwork⟩ := h
  have hself : f s = t.finish accepts := hwork id id id
  rw [hself]
  exact (hwork (fun _ => high) (fun _ => line) id).trans (t.masked_finish accepts _ _)

/-- R157: which edge comes next. -/
theorem State.nextEdge_cases (s : State) :
    (s.pins.mselLow = false → s.nextEdge = none) ∧
    (s.pins.mselLow = true → s.pins.mclkHigh = true → s.nextEdge = some s.quiet.mclkFall) ∧
    (s.pins.mselLow = true → s.pins.mclkHigh = false → s.pins.line = [] → s.nextEdge = none) ∧
    (∀ b rest, s.pins.mselLow = true → s.pins.mclkHigh = false → s.pins.line = b :: rest →
      s.nextEdge = some (s.quiet.mclkRise b rest)) := by
  refine ⟨fun hmsel => ?_, fun hmsel hmclk => ?_, fun hmsel hmclk hline => ?_, fun b rest hmsel hmclk hline => ?_⟩
  · simp [State.nextEdge, hmsel]
  · simp [State.nextEdge, hmsel, hmclk]
  · simp [State.nextEdge, hmsel, hmclk, hline]
  · simp [State.nextEdge, hmsel, hmclk, hline]

theorem Frame.takesBits_eq_false {f : Frame} : f.takesBits = false ↔ f = .idle ∨ f = .skip := by
  cases f <;> simp [Frame.takesBits]

theorem State.mclkRise_ignored {s : State} (h : s.link.frame.takesBits = false) (b : Bool) (rest : List Bool) :
    s.mclkRise b rest = s.withClock true rest := by
  unfold State.mclkRise State.sampleBit
  exact if_neg (by simp [h])

theorem State.mclkRise_of_takesBits {s : State} (h : s.link.frame.takesBits = true) (b : Bool) (rest : List Bool) :
    s.mclkRise b rest = if s.link.inBits.length < 7 then
      (s.withClock true rest).withLink { s.link with inBits := s.link.inBits ++ [b] }
    else ((s.withClock true rest).withLink { s.link with inBits := [] }).takeByte (byteOfBits (s.link.inBits ++ [b])) := by
  unfold State.mclkRise State.sampleBit
  exact if_pos h

/-- R157: the eighth bit completes the byte whose bits, most significant first, were taken. -/
theorem State.mclkRise_byte {s : State} {b : Bool} {v : Byte} (h : s.link.frame.takesBits = true)
    (hbits : s.link.inBits ++ [b] = (List.range 8).map v.getMsbD) (rest : List Bool) :
    s.mclkRise b rest = ((s.withClock true rest).withLink { s.link with inBits := [] }).takeByte v := by
  have hlength : s.link.inBits.length = 7 := by
    have := congrArg List.length hbits
    simpa using this
  rw [State.mclkRise_of_takesBits h, if_neg (by omega), hbits, byteOfBits_bits]

theorem State.mclkFall_outside {s : State} (h : ∀ i, s.link.frame ≠ .read i) :
    s.mclkFall = s.withClock false s.pins.line := by
  unfold State.mclkFall State.presentBit
  split
  next i hframe => exact absurd hframe (h i)
  all_goals rfl

theorem State.mclkFall_read {s : State} {i : Index} (h : s.link.frame = .read i) :
    s.mclkFall = if s.link.inBits.isEmpty then (s.withClock false s.pins.line).present i
      else (s.withClock false s.pins.line).withLink
        { s.link with mdo := s.link.out.map fun b => b.getMsbD s.link.inBits.length } := by
  have hframe : (s.withPins { s.pins with mclkHigh := false }).link.frame = .read i := h
  unfold State.mclkFall State.presentBit
  rw [hframe]
  rfl

/-! ## A byte read (R150) -/

theorem State.completeRead_eq_withEvents (s : State) (i : Index) :
    s.completeRead i = s.withEvents (s.completeRead i).events := by
  unfold State.completeRead
  split
  · rfl
  · split <;> rfl

theorem State.completeRead_events_congr {s t : State} (i : Index) (hsnapshot : t.link.snapshot = s.link.snapshot)
    (hevents : t.events = s.events) : (t.completeRead i).events = (s.completeRead i).events := by
  unfold State.completeRead
  rw [hsnapshot]
  cases s.link.snapshot with
  | none => exact hevents
  | some n =>
    dsimp only
    split
    · exact congrArg EventQueue.removeHead hevents
    · exact hevents

theorem State.present_events (s : State) (i : Index) : (s.present i).events = s.events := by
  unfold State.present
  split <;> rfl

/-! ## A byte written -/

theorem globalField_code {n o : Nat} (h : globalField n = some (.code, o)) : n = 1 := by
  have hassigned : ∀ m : Fin 48, (globalField m).map Prod.fst = some .code → m.val = 1 := by decide
  by_cases hn : n < 48
  · exact hassigned ⟨n, hn⟩ (by rw [h]; rfl)
  · have hnone : globalField n = none := by
      unfold globalField
      iterate 13 rw [if_neg (by omega)]
    rw [hnone] at h
    cases h

theorem windowField_ne_code (w : WindowId) (n o : Nat) : windowField w n ≠ some (.code, o) := by
  unfold windowField
  split_ifs <;> simp

theorem groupField_ne_code (g : GroupId) (n o : Nat) : groupField g n ≠ some (.code, o) := by
  unfold groupField
  split_ifs <;> simp

theorem sourceField_ne_code (e : SourceId) (n o : Nat) : sourceField e n ≠ some (.code, o) := by
  unfold sourceField
  split_ifs <;> simp

/-- R180: the command code is the one byte at 0x0001. -/
theorem index_of_fieldAt_code {i : Index} {o : Nat} (h : fieldAt i = some (.code, o)) : i = 0x0001 := by
  unfold fieldAt at h
  dsimp only at h
  split_ifs at h
  · exact BitVec.eq_of_toNat_eq (globalField_code h)
  · split at h
    · cases h
    · exact absurd h (windowField_ne_code _ _ _)
  · split at h
    · cases h
    · exact absurd h (groupField_ne_code _ _ _)
  · split at h
    · cases h
    · exact absurd h (sourceField_ne_code _ _ _)

theorem byteRow_command {i : Index} {b : Byte} (h : byteRow i b = .command) : i = 0x0001 := by
  unfold byteRow at h
  cases hfield : fieldAt i with
  | none => rw [hfield] at h; cases h
  | some place =>
    obtain ⟨f, o⟩ := place
    by_cases hcode : f = .code
    · exact index_of_fieldAt_code (hcode ▸ hfield)
    · exact absurd h (byteRow_ne_command hfield hcode b)

/-- R164: the row of a code byte runs the command that the code names. -/
theorem exec_codeRow {s : State} (hframe : s.byteFrame = .write 0x0001) (b : Byte) :
    exec (dataByteRow 0x0001 b) s = .next (s.quiet.runCommand b (codeBody b)) := by
  have hrun (body : State → CommandResult × State) : s.quiet.command b body = s.quiet.runCommand b body :=
    if_pos hframe
  have hrow : byteRow 0x0001 b = .command := rfl
  unfold dataByteRow codeBody
  rw [hrow]
  dsimp only
  split_ifs with h1 h2 h3 h4 h5 h6 h7
  · rw [exec_enable, ← h1, hrun]
  · rw [exec_disable, ← h2, hrun]
  · rw [exec_suspend, ← h3, hrun]
  · rw [exec_publish, ← h4, hrun]
  · rw [exec_rollback, ← h5, hrun]
  · rw [exec_boundary, ← h6, hrun]
  · rw [exec_softReset, ← h7, hrun]
  · have hnames : namesCommand b = false := by
      simp only [namesCommand, Bool.and_eq_false_iff, decide_eq_false_iff_not]
      bv_omega
    rw [exec_noCommand hnames, hrun]

/-- R159: a data byte, taken as its row, is what the eighth bit takes. -/
theorem exec_dataByte {s : State} {i : Index} (hframe : s.byteFrame = .write i) (b : Byte) :
    exec (dataByteRow i b) s = .next (s.quiet.takeWriteByte i b) := by
  unfold State.takeWriteByte
  split
  next hi =>
    subst hi
    exact exec_codeRow hframe b
  next hi =>
    rw [exec_dataByteRow s i b fun h => hi (byteRow_command h), State.byteAs_of_row hframe rfl]
    rfl

theorem State.takeWriteByte_late (s : State) (i : Index) (b : Byte) : Late fun u => (s.masked u).takeWriteByte i b := by
  unfold State.takeWriteByte
  split
  · exact s.runCommand_late b (codeBody_late (s.takeCode b) b)
  · exact s.writeByte_late i b

/-! ## The statement -/

theorem State.mclkRise_bits (s : State) (b : Bool) (rest : List Bool) :
    (s.link.frame = .idle ∨ s.link.frame = .skip → s.mclkRise b rest = s.withClock true rest) ∧
    (s.link.frame ≠ .idle → s.link.frame ≠ .skip → s.link.inBits.length < 7 → s.mclkRise b rest =
      (s.withClock true rest).withLink { s.link with inBits := s.link.inBits ++ [b] }) := by
  refine ⟨fun h => State.mclkRise_ignored (Frame.takesBits_eq_false.2 h) b rest, fun hidle hskip hlength => ?_⟩
  have htakes : s.link.frame.takesBits = true :=
    Bool.eq_true_of_not_eq_false fun h => (Frame.takesBits_eq_false.1 h).elim hidle hskip
  rw [State.mclkRise_of_takesBits htakes, if_pos hlength]

/-- Settles O46: the cases of an edge; the byte that eight bits make is written as its row writes it, as no write depends on
the clock. -/
theorem serialBitsMakeBytes : Obligations.SerialBitsMakeBytes := by
  refine ⟨State.nextEdge_cases, State.mclkRise_bits, fun s b rest v hbits => ?_, fun s => ⟨fun i hframe => ⟨fun hin => ?_,
    fun v hin hout => ?_⟩, State.mclkFall_outside⟩⟩
  · intro whole clocked
    have htakes {f : Frame} (hframe : s.link.frame = f) (hf : f.takesBits = true) :
        s.mclkRise b rest = (clocked.withLink whole).takeByte v :=
      State.mclkRise_byte (hframe ▸ hf) hbits rest
    refine ⟨fun hframe => ?_, fun d hframe hindex => ?_, fun h hindex => ⟨fun hframe => ?_, fun hframe => ?_⟩,
      fun i hframe => ?_, fun i hframe hindex => ?_⟩
    · have hbyte : (clocked.withLink whole).link.frame = .ident := hframe
      rw [htakes hframe rfl, State.takeByte, hbyte, ← identifiedFrame_eq]
      rfl
    · have hbyte : (clocked.withLink whole).link.frame = .index d := hframe
      have hnone : (clocked.withLink whole).link.indexHigh = none := hindex
      rw [htakes hframe rfl, State.takeByte, hbyte]
      dsimp only
      rw [State.takeIndexByte, hnone]
      rfl
    · have hbyte : (clocked.withLink whole).link.frame = .index .readFrame := hframe
      have hsome : (clocked.withLink whole).link.indexHigh = some h := hindex
      rw [htakes hframe rfl, State.takeByte, hbyte]
      dsimp only
      rw [State.takeIndexByte, hsome]
      rfl
    · have hbyte : (clocked.withLink whole).link.frame = .index .writeFrame := hframe
      have hsome : (clocked.withLink whole).link.indexHigh = some h := hindex
      rw [htakes hframe rfl, State.takeByte, hbyte]
      dsimp only
      rw [State.takeIndexByte, hsome]
      rfl
    · have hrow : ((s.withLink { whole with indexHigh := none }).withClock false rest).byteFrame = .read i :=
        (State.byteFrame_eq_iff _ _ (by simp)).2 ⟨hframe, rfl, rfl, rfl⟩
      have hbyte : (clocked.withLink whole).link.frame = .read i := hframe
      have htaken : s.mclkRise b rest = (clocked.withLink whole).takeReadByte i := by
        rw [htakes hframe rfl, State.takeByte, hbyte]
      have hevents : (s.mclkRise b rest).events = ((clocked.withLink whole).completeRead i).events := by rw [htaken]; rfl
      refine ⟨_, exec_headRecordRemoval_of_read hrow, ?_, ?_⟩
      · rw [hevents, State.present_events]
        exact State.completeRead_events_congr i rfl rfl
      · rw [hevents, htaken, State.takeReadByte]
        dsimp only
        rw [State.completeRead_link, State.completeRead_eq_withEvents]
        rfl
    · have hrow : ((s.withLink whole).withClock false rest).byteFrame = .write i :=
        (State.byteFrame_eq_iff _ _ (by simp)).2 ⟨hframe, rfl, by rw [← hindex]; rfl, rfl⟩
      refine ⟨_, exec_dataByte hrow v, ?_⟩
      have hbyte : ((s.quiet.withClock true rest).withLink whole).link.frame = .write i := hframe
      have htakes' : s.quiet.link.frame.takesBits = true := by rw [State.quiet_link, hframe]; rfl
      rw [State.mclkRise_byte (s := s.quiet) htakes' hbits rest]
      have hwrite : ((s.quiet.withClock true rest).withLink whole).takeByte v =
          ((s.quiet.withClock true rest).withLink whole).takeWriteByte i v := by rw [State.takeByte, hbyte]
      exact hwrite.trans (Late.withClock (f := fun a => a.takeWriteByte i v)
        (((s.withLink whole).withClock false rest).quiet.takeWriteByte_late i v) true rest)
  · rw [State.mclkFall_read hframe, hin]
    rfl
  · rw [State.mclkFall_read hframe, hout]
    simp [hin]

end Sys2Proof.Machine
end

section
/-! What every command does with requests that stand offered: it does its work as with none of them, and ends with their
acceptance where it frees a slot or opens the port (R97, R113, R115). -/

namespace Sys2Proof.Machine

open Sys2Proof

/-! ## What stands offered is accepted in order (R97) -/

theorem State.acceptStanding_of_closed {s : State} (h : s.nextAccepted = none) : s.acceptStanding = s := by
  unfold State.acceptStanding
  cases s.port.offered.length with
  | zero => rfl
  | succ n => rw [State.acceptUpTo, h]

/-- R97, R113: nothing is accepted while a reset is held, nothing stands offered or every slot is taken. -/
theorem State.acceptStanding_of_shut {s : State}
    (h : s.resetHeld = true ∨ s.port.offered = [] ∨ ∀ i : Fin 8, s.port.slots[i] ≠ none) : s.acceptStanding = s := by
  refine State.acceptStanding_of_closed (s.nextAccepted_none.2 fun ⟨hopen, hoffered, i, hi⟩ => ?_)
  obtain hheld | hnone | hfull := h
  · rw [hopen] at hheld; cases hheld
  · exact hoffered hnone
  · exact hfull i hi

/-- R97: the oldest request that stands offered is accepted into the first free slot, then the rest. -/
theorem State.acceptStanding_of_next {s : State} {i : Fin 8} {r : Request} {rest : List Request}
    (h : s.nextAccepted = some (i, r, rest)) :
    s.acceptStanding = ((s.withPort { s.port with offered := rest }).accept i r).acceptStanding := by
  obtain ⟨-, hoffered, -, -⟩ := State.nextAccepted_some.1 h
  have hlength : s.port.offered.length = rest.length + 1 := by rw [hoffered]; rfl
  have hrest : ((s.withPort { s.port with offered := rest }).accept i r).port.offered.length = rest.length :=
    congrArg List.length (State.accept_offered _ i r)
  rw [State.acceptStanding, State.acceptStanding, hlength, hrest]
  simp only [State.acceptUpTo, h]

/-! ## A state in which other requests stand offered -/

/-- The state with other requests offered. -/
def State.offering (s : State) (x : List Request) : State := s.withPort { s.port with offered := x }

theorem State.offering_eq_masked (s : State) (x : List Request) :
    s.offering x = s.masked (.ports id id fun _ => x) := rfl

/-- An operation that ignores the parts that are not read ignores what stands offered. -/
theorem State.offering_of_masked {f : State → State} {s : State} (hf : ∀ u : Unread, f (s.masked u) = (f s).masked u)
    (x : List Request) : f (s.offering x) = (f s).offering x :=
  hf (.ports id id fun _ => x)

theorem State.finish_of_shut {s : State} (h : s.resetHeld = true ∨ s.port.offered = []) (accepts : Bool) :
    s.finish accepts = s := by
  cases accepts with
  | false => rfl
  | true => exact State.acceptStanding_of_shut (h.imp_right .inl)

theorem State.finish_pins (s : State) (accepts : Bool) : (s.finish accepts).pins = s.pins := by
  cases accepts with
  | false => rfl
  | true => simp [State.finish]

/-- Work that ends with acceptance, where nothing can be accepted: it leaves what stands offered. -/
theorem Late.offering {f : State → State} {s : State} (h : Late fun u => f (s.masked u)) (hpins : (f s).pins = s.pins)
    {x : List Request} (hshut : s.resetHeld = true ∨ x = []) : f (s.offering x) = (f (s.offering [])).offering x := by
  obtain ⟨t, accepts, hwork⟩ := h
  have hself : f s = t.finish accepts := hwork id id id
  have hheld : t.resetHeld = s.resetHeld := by
    rw [State.resetHeld, State.resetHeld, ← hpins, hself, State.finish_pins]
  have hoffering (y : List Request) (hy : s.resetHeld = true ∨ y = []) : f (s.offering y) = t.offering y := by
    refine (hwork id id fun _ => y).trans (State.finish_of_shut ?_ accepts)
    exact hy.imp_left hheld.trans
  rw [hoffering x hshut, hoffering [] (.inr rfl)]
  rfl

/-! ## The boot load (R176, R177) -/

theorem State.enableAtBootLoad_late (s : State) (w : WindowId) : Late fun u => (s.masked u).enableAtBootLoad w := by
  obtain ⟨r, t, accepts, hwork⟩ := s.enableWindow_late w
  unfold State.enableAtBootLoad
  by_cases hmark : s.windows[w].enableAtBoot = true
  · exact .of_eq (fun _ => if_pos hmark) ⟨t, accepts, fun _ _ _ => congrArg Prod.snd (hwork _ _ _)⟩
  · exact .of_eq (fun _ => if_neg hmark) (.of_masked fun _ => rfl)

theorem State.enableAtBootLoad_pins (s : State) (w : WindowId) : (s.enableAtBootLoad w).pins = s.pins := by
  unfold State.enableAtBootLoad State.enableWindow State.enableTaken
  repeat' split
  all_goals simp

theorem State.enableAll_offering {x : List Request} (l : List WindowId) (s : State)
    (hshut : s.resetHeld = true ∨ x = []) :
    l.foldl State.enableAtBootLoad (s.offering x) = (l.foldl State.enableAtBootLoad (s.offering [])).offering x := by
  induction l generalizing s with
  | nil => rfl
  | cons w l ih =>
    have hfirst (y : List Request) (hy : s.resetHeld = true ∨ y = []) :
        (s.offering y).enableAtBootLoad w = ((s.offering []).enableAtBootLoad w).offering y :=
      Late.offering (f := fun a => a.enableAtBootLoad w) (s.enableAtBootLoad_late w) (s.enableAtBootLoad_pins w) hy
    have hheld : ((s.offering []).enableAtBootLoad w).resetHeld = s.resetHeld :=
      congrArg (fun p : Pins => p.pwrupLow || p.rstLow) ((s.offering []).enableAtBootLoad_pins w)
    rw [List.foldl_cons, List.foldl_cons, hfirst x hshut, ih _ (hshut.imp_left hheld.trans), ← hfirst [] (.inr rfl)]

theorem State.applyImage_pins (s : State) (bytes : List Byte) : (s.applyImage bytes).pins = s.pins := by
  have hgroup (a : State) (i : Nat) (h : a.pins = s.pins) : (State.applyGroupRecord bytes a i).pins = s.pins := by
    unfold State.applyGroupRecord
    split
    · exact h
    · exact h
  have hwindow (a : State) (i : Nat) (h : a.pins = s.pins) : (State.applyWindowRecord bytes a i).pins = s.pins := by
    unfold State.applyWindowRecord
    split
    · exact h
    · exact h
  exact foldl_keeps (fun a : State => a.pins = s.pins) _ hwindow _ _
    (foldl_keeps (fun a : State => a.pins = s.pins) _ hgroup _ s rfl)

theorem State.bootApply_offering (s : State) {x : List Request} (hshut : s.resetHeld = true ∨ x = [])
    (bytes : List Byte) : (s.offering x).bootApply bytes = ((s.offering []).bootApply bytes).offering x := by
  have happlied (y : List Request) : (s.offering y).applyImage bytes = (s.applyImage bytes).offering y :=
    s.masked_applyImage (.ports id id fun _ => y) bytes
  have hheld : (s.applyImage bytes).resetHeld = s.resetHeld := by
    rw [State.resetHeld, State.resetHeld, s.applyImage_pins]
  unfold State.bootApply
  cases imageFailure bytes with
  | some cause => rfl
  | none =>
    dsimp only
    rw [happlied, happlied, State.enableAll_offering _ (s.applyImage bytes) (hshut.imp_left hheld.trans)]
    generalize List.foldl State.enableAtBootLoad ((s.applyImage bytes).offering []) (places 16) = a
    rfl

theorem State.bootImage_offering (s : State) {x : List Request} (hshut : s.resetHeld = true ∨ x = [])
    (data : List Beat) : (s.offering x).bootImage data = ((s.offering []).bootImage data).offering x := by
  have hstartUp (y : List Request) : (s.offering y).startUp = s.startUp := rfl
  unfold State.bootImage
  simp only [hstartUp]
  split
  · split <;> rfl
  · split
    · rfl
    · exact s.bootApply_offering hshut _

/-- R137: the result of a request, where a boot load finds nothing that it could accept. -/
theorem State.handResult_offering (s : State) {x : List Request}
    (hshut : s.bootInProgress = true → s.resetHeld = true ∨ x = []) (o : Owner) (ok : Bool) (data : List Beat) :
    (s.offering x).handResult o ok data = ((s.offering []).handResult o ok data).offering x := by
  have hmasked (f : State → State) (hf : ∀ u, f (s.masked u) = (f s).masked u) :
      f (s.offering x) = (f (s.offering [])).offering x := by
    rw [State.offering_of_masked hf x, State.offering_of_masked hf []]
    rfl
  cases o with
  | transfer i part => exact hmasked (fun a => a.transferResult i part ok data) fun u => s.masked_transferResult u i part ok data
  | copier c => exact hmasked (fun a => a.copyResult c ok data) fun u => s.masked_copyResult u c ok data
  | startUp =>
    have hstartUp (y : List Request) : (s.offering y).startUp = s.startUp := rfl
    show (s.offering x).bootResult ok data = ((s.offering []).bootResult ok data).offering x
    unfold State.bootResult
    cases ok with
    | false => rfl
    | true =>
      simp only [hstartUp, if_true]
      cases hstate : s.startUp.state with
      | image => exact s.bootImage_offering (hshut (by rw [State.bootInProgress, hstate])) data
      | pointer => exact hmasked (fun a => a.bootPointer data) fun u => s.masked_bootPointer u data
      | none => rfl
      | pending => rfl
      | ended => rfl

end Sys2Proof.Machine
end

section
/-! Each command but an offer does its work as with nothing offered, and ends with acceptance where it frees a slot or opens
the port (R97). -/

namespace Sys2Proof.Machine

open Sys2Proof

/-! ## Commands and what stands offered -/

/-- What a command gives in a state, with nothing offered and with what stands offered: the same work, and then acceptance or
not. -/
def LateRow (s : State) (row : State → Host.Outcome State Fault Refusal) : Prop :=
  ∃ (t : State) (accepts : Bool), ∀ x : List Request, x = [] ∨ x = s.port.offered →
    row (s.offering x) = .next ((t.offering x).finish accepts)

theorem next_acceptStanding_congr {a b : State} (h : a = b) :
    (.next a.acceptStanding : Host.Outcome State Fault Refusal) = .next (b.finish true) := by
  rw [h]
  rfl

theorem Late.row {f : Unread → State} (h : Late f) {s : State} {row : State → Host.Outcome State Fault Refusal}
    (hrow : ∀ x, row (s.offering x) = .next (f (.ports id id fun _ => x))) : LateRow s row := by
  obtain ⟨t, accepts, hwork⟩ := h
  exact ⟨t, accepts, fun x _ => (hrow x).trans (congrArg _ (hwork id id fun _ => x))⟩

theorem LateRow.of_offering {s t : State} {row : State → Host.Outcome State Fault Refusal}
    (hrow : ∀ x, row (s.offering x) = .next (t.offering x)) : LateRow s row :=
  ⟨t, false, fun x _ => hrow x⟩

theorem LateRow.of_accepting {s t : State} {row : State → Host.Outcome State Fault Refusal}
    (hrow : ∀ x, row (s.offering x) = .next (t.offering x).acceptStanding) : LateRow s row :=
  ⟨t, true, fun x _ => hrow x⟩

section
variable (s : State)

theorem State.offering_quiet (x : List Request) : (s.offering x).quiet = s.quiet.offering x := rfl

/-! ## Memory and copies -/

theorem memGrant_late : LateRow s execMemGrant := by
  have hnext (x : List Request) : (s.quiet.offering x).nextGrant = s.quiet.nextGrant :=
    s.quiet.masked_nextGrant (.ports id id fun _ => x)
  cases h : s.quiet.nextGrant with
  | none =>
    refine .of_offering (t := s.quiet) fun x => ?_
    simp only [execMemGrant, State.offering_quiet, hnext, h]
  | some p =>
    obtain ⟨k, cls, o⟩ := p
    refine .of_offering (t := s.quiet.grant k cls o) fun x => ?_
    simp only [execMemGrant, State.offering_quiet, hnext, h]
    exact congrArg _ (s.quiet.masked_grant (.ports id id fun _ => x) k cls o)

theorem copierTake_late : LateRow s execCopierTake := by
  have hnext (x : List Request) : (s.quiet.offering x).nextCopy = s.quiet.nextCopy := rfl
  cases h : s.quiet.nextCopy with
  | none =>
    refine .of_offering (t := s.quiet) fun x => ?_
    simp only [execCopierTake, State.offering_quiet, hnext, h]
  | some p =>
    obtain ⟨c, w, line, o⟩ := p
    refine .of_offering (t := s.quiet.takeLine c w line o) fun x => ?_
    simp only [execCopierTake, State.offering_quiet, hnext, h]
    exact congrArg _ (s.quiet.masked_takeLine (.ports id id fun _ => x) c w line o)

/-- R137: a result is handed to its owner, then the transfers are tested and what stands offered is accepted. -/
theorem State.handResult_retest_offering (a : State) {x : List Request}
    (hshut : a.bootInProgress = true → a.resetHeld = true ∨ x = []) (o : Owner) (ok : Bool) (data : List Beat) :
    ((a.offering x).handResult o ok data).retest = (((a.offering []).handResult o ok data).retest).offering x := by
  rw [a.handResult_offering hshut]
  exact State.masked_retest _ (.ports id id fun _ => x)

/-- During a boot load the table is empty, so that a request stands offered only while a reset is held. -/
theorem State.Inv.shut_in_boot {s : State} (h : s.Inv) {x : List Request} (hx : x = [] ∨ x = s.port.offered)
    (hboot : s.bootInProgress = true) : s.resetHeld = true ∨ x = [] := by
  obtain hx | hx := hx
  · exact .inr hx
  have hsafe : s.Safe False := ⟨h, False.elim⟩
  have hempty := (hsafe.sound.asleep (.inl hboot)).slots
  obtain hheld | hnone | hfull := h.offered
  · exact .inl hheld
  · exact .inr (hx.trans hnone)
  · exact absurd (hempty 0) (hfull 0)

theorem State.countFree_start (a : State) (isOpen : Bool) :
    (a.countFree isOpen).bootInProgress = a.bootInProgress ∧ (a.countFree isOpen).resetHeld = a.resetHeld := by
  unfold State.countFree
  split <;> exact ⟨rfl, rfl⟩

theorem memResponse_late (h : s.Inv) (k : Fin 12) (status : MemStatus) (data : List Beat) :
    LateRow s (execMemResponse k status data) := by
  have hslot (x : List Request) : (s.quiet.offering x).mem.slots[k] = s.quiet.mem.slots[k] := rfl
  cases hk : s.quiet.mem.slots[k] with
  | free =>
    refine .of_offering (t := s.quiet) fun x => ?_
    simp only [execMemResponse, State.offering_quiet, hslot, hk]
  | fenced timer limit =>
    refine .of_offering (t := s.quiet.setMemSlot k .free) fun x => ?_
    simp only [execMemResponse, State.offering_quiet, hslot, hk]
    rfl
  | pending request o timer limit =>
    have hshut (x : List Request) (hx : x = [] ∨ x = s.port.offered) : s.bootInProgress = true →
        s.resetHeld = true ∨ x = [] := h.shut_in_boot hx
    cases status with
    | okay =>
      have hcount (x : List Request) : ((s.quiet.offering x).setMemSlot k .free).countFree (beatsOpen request data) =
          ((s.quiet.setMemSlot k .free).countFree (beatsOpen request data)).offering x :=
        State.masked_countFree (s.quiet.setMemSlot k .free) (.ports id id fun _ => x) _
      obtain ⟨hboot, hheld⟩ := (s.quiet.setMemSlot k .free).countFree_start (beatsOpen request data)
      refine ⟨((((s.quiet.setMemSlot k .free).countFree (beatsOpen request data)).offering []).handResult o true
        (responseBeats s.freeUses request data)).retest, true, fun x hx => ?_⟩
      simp only [execMemResponse, State.offering_quiet, hslot, hk, State.respondPending, hcount]
      generalize (s.quiet.setMemSlot k .free).countFree (beatsOpen request data) = a at *
      exact next_acceptStanding_congr
        (a.handResult_retest_offering (fun hb => (hshut x hx (hboot.symm.trans hb)).imp_left hheld.trans) o true _)
    | error =>
      refine ⟨(((s.quiet.setMemSlot k .free).offering []).handResult o false []).retest, true, fun x hx => ?_⟩
      simp only [execMemResponse, State.offering_quiet, hslot, hk, State.respondPending]
      exact next_acceptStanding_congr
        ((s.quiet.setMemSlot k .free).handResult_retest_offering (hshut x hx) o false [])

theorem memTimeout_late (h : s.Inv) (k : Fin 12) : LateRow s (execMemTimeout k) := by
  have hslot (x : List Request) : (s.quiet.offering x).mem.slots[k] = s.quiet.mem.slots[k] := rfl
  cases hk : s.quiet.mem.slots[k] with
  | free =>
    refine .of_offering (t := s.quiet) fun x => ?_
    simp only [execMemTimeout, State.offering_quiet, hslot, hk]
  | fenced timer limit =>
    refine .of_offering (t := s.quiet) fun x => ?_
    simp only [execMemTimeout, State.offering_quiet, hslot, hk]
  | pending request o timer limit =>
    by_cases hdue : limit ≤ timer
    · refine ⟨((((s.quiet.record (.memTimeout request.address (s.quiet.timeoutWindow o))).setMemSlot k
        (.fenced 0 s.quiet.link.memoryLimit.toNat)).offering []).handResult o false []).retest, true, fun x hx => ?_⟩
      have hwindow : (s.quiet.offering x).timeoutWindow o = s.quiet.timeoutWindow o := rfl
      simp only [execMemTimeout, State.offering_quiet, hslot, hk, hdue, if_true, State.timeOut, hwindow]
      exact next_acceptStanding_congr
        (((s.quiet.record (.memTimeout request.address (s.quiet.timeoutWindow o))).setMemSlot k
          (.fenced 0 s.quiet.link.memoryLimit.toNat)).handResult_retest_offering (h.shut_in_boot hx) o false [])
    · refine .of_offering (t := s.quiet) fun x => ?_
      simp only [execMemTimeout, State.offering_quiet, hslot, hk, hdue, if_false]

theorem fenceEnd_late (k : Fin 12) : LateRow s (execFenceEnd k) := by
  have hslot (x : List Request) : (s.quiet.offering x).mem.slots[k] = s.quiet.mem.slots[k] := rfl
  cases hk : s.quiet.mem.slots[k] with
  | free =>
    refine .of_offering (t := s.quiet) fun x => ?_
    simp only [execFenceEnd, State.offering_quiet, hslot, hk]
  | pending request o timer limit =>
    refine .of_offering (t := s.quiet) fun x => ?_
    simp only [execFenceEnd, State.offering_quiet, hslot, hk]
  | fenced timer limit =>
    by_cases hdue : limit ≤ timer
    · refine .of_offering (t := s.quiet.setMemSlot k .free) fun x => ?_
      simp only [execFenceEnd, State.offering_quiet, hslot, hk, hdue, if_true]
      rfl
    · refine .of_offering (t := s.quiet) fun x => ?_
      simp only [execFenceEnd, State.offering_quiet, hslot, hk, hdue, if_false]

/-! ## Limits and epoch timing -/

theorem holdLimitExpiry_late (i : Fin 8) : LateRow s (execHoldLimitExpiry i) := by
  have hslot (x : List Request) : (s.quiet.offering x).port.slots[i] = s.quiet.port.slots[i] := rfl
  cases hi : s.quiet.port.slots[i] with
  | none =>
    refine .of_offering (t := s.quiet) fun x => ?_
    simp only [execHoldLimitExpiry, State.offering_quiet, hslot, hi]
  | some t =>
    by_cases hdue : t.holdExpired = true
    · refine .of_accepting (t := ((s.quiet.record (.holdExpired t.request.master t.request.address t.window)).answer i
        .retry []).retest) fun x => ?_
      have hwork : ((s.quiet.offering x).record (.holdExpired t.request.master t.request.address t.window)).answer i
          .retry [] = ((s.quiet.record (.holdExpired t.request.master t.request.address t.window)).answer i .retry
            []).offering x :=
        State.masked_answer (s.quiet.record (.holdExpired t.request.master t.request.address t.window))
          (.ports id id fun _ => x) i .retry []
      simp only [execHoldLimitExpiry, State.offering_quiet, hslot, hi, hdue, if_true, hwork]
      exact next_acceptStanding_congr (State.masked_retest _ (.ports id id fun _ => x))
    · refine .of_offering (t := s.quiet) fun x => ?_
      simp only [execHoldLimitExpiry, State.offering_quiet, hslot, hi, hdue, if_false, Bool.false_eq_true]

theorem lockLimitExpiry_late (j : Fin 4) : LateRow s (execLockLimitExpiry j) := by
  have hlock (x : List Request) : (s.quiet.offering x).locks[j] = s.quiet.locks[j] := rfl
  cases hj : s.quiet.locks[j] with
  | none =>
    refine .of_offering (t := s.quiet) fun x => ?_
    simp only [execLockLimitExpiry, State.offering_quiet, hlock, hj]
  | some l =>
    by_cases hdue : l.limit ≤ l.age
    · refine .of_offering (t := (s.quiet.setLock j none).record (.lockBroken l.master l.line)) fun x => ?_
      simp only [execLockLimitExpiry, State.offering_quiet, hlock, hj, hdue, if_true]
      rfl
    · refine .of_offering (t := s.quiet) fun x => ?_
      simp only [execLockLimitExpiry, State.offering_quiet, hlock, hj, hdue, if_false]

theorem closeTimerExpiry_late (e : SourceId) : LateRow s (execCloseTimerExpiry e) := by
  by_cases hdue : s.timing.sources[e].closeTimer = .expiring
  · exact .of_offering (t := s.quiet.setSource e s.timing.sources[e].expire) fun _ => if_pos hdue
  · exact .of_offering (t := s.quiet) fun _ => if_neg hdue

theorem syncRisingEdge_late (i : Fin 2) (level : Bool) : LateRow s (execSyncRisingEdge i level) := by
  have hmoved (x : List Request) : ((s.offering x).quiet.syncLevel i level).clearEdge i =
      ((s.quiet.syncLevel i level).clearEdge i).offering x := rfl
  have hfound (x : List Request) : ((s.offering x).timing.edges[i] && !(s.offering x).resetHeld) =
      (s.timing.edges[i] && !s.resetHeld) := rfl
  have hexec (x : List Request) : execSyncRisingEdge i level (s.offering x) =
      if (s.timing.edges[i] && !s.resetHeld) = true then
        .next ((((s.quiet.syncLevel i level).clearEdge i).offering x).boundaryOf (syncSource i))
      else .next (((s.quiet.syncLevel i level).clearEdge i).offering x) := by
    rw [← hmoved, ← hfound x]
    rfl
  generalize (s.quiet.syncLevel i level).clearEdge i = a at *
  have hboundary (x : List Request) : (a.offering x).boundaryOf (syncSource i) =
      (a.boundaryOf (syncSource i)).offering x :=
    State.offering_of_masked (f := fun b => b.boundaryOf (syncSource i)) (fun u => a.masked_boundaryOf u _) x
  by_cases hdue : (s.timing.edges[i] && !s.resetHeld) = true
  · refine .of_offering (t := a.boundaryOf (syncSource i)) fun x => ?_
    rw [hexec, if_pos hdue, hboundary]
  · refine .of_offering (t := a) fun x => ?_
    rw [hexec, if_neg hdue]

end

end Sys2Proof.Machine
end

section
/-! The rows of the management link and of the reset lines as they meet requests that stand offered, and with them every
command (R97, R113, R115). -/

namespace Sys2Proof.Machine

open Sys2Proof

section
variable (s : State)

/-! ## The management link -/

theorem State.offering_byteFrame (x : List Request) : (s.quiet.offering x).byteFrame = s.quiet.byteFrame := rfl

theorem byteAs_late (row : ByteRow) (b : Byte) : LateRow s fun a => .next (a.quiet.byteAs row b) := by
  have hunchanged (h : ∀ x, (s.quiet.offering x).byteAs row b = s.quiet.offering x) :
      LateRow s fun a => .next (a.quiet.byteAs row b) := .of_offering (t := s.quiet) fun x => congrArg _ (h x)
  cases h : s.quiet.byteFrame
  case write i =>
    by_cases hrow : byteRow i b = row
    · refine (s.quiet.writeByte_late i b).row fun x => congrArg _ ?_
      rw [State.offering_quiet, State.byteAs, State.offering_byteFrame, h]
      exact if_pos hrow
    · refine hunchanged fun x => ?_
      rw [State.byteAs, State.offering_byteFrame, h]
      exact if_neg hrow
  all_goals exact hunchanged fun x => by rw [State.byteAs, State.offering_byteFrame, h]

theorem command_late (code : Byte) {body : State → CommandResult × State}
    (hbody : ∀ a : State, LateCommand fun u => body (a.masked u)) : LateRow s fun a => .next (a.quiet.command code body) := by
  by_cases hframe : s.quiet.byteFrame = .write 0x0001
  · refine (s.quiet.runCommand_late code (hbody (s.quiet.takeCode code))).row fun x => congrArg _ ?_
    rw [State.offering_quiet]
    exact if_pos hframe
  · refine .of_offering (t := s.quiet) fun x => congrArg _ ?_
    rw [State.offering_quiet]
    exact if_neg hframe

theorem noCommand_late (code : Byte) : LateRow s (execCommandCodeNamingNoCommand code) := by
  by_cases hnames : namesCommand code = true
  · exact .of_offering (t := s.quiet) fun _ => if_pos hnames
  · obtain ⟨t, accepts, hwork⟩ := command_late s code (body := State.noCommand) fun a => .of_masked _ a
    exact ⟨t, accepts, fun x hx => (if_neg hnames).trans (hwork x hx)⟩

theorem State.present_offering (i : Index) (x : List Request) : (s.offering x).present i = (s.present i).offering x := by
  unfold State.present
  split <;> rfl

theorem State.completeRead_offering (i : Index) (x : List Request) :
    (s.offering x).completeRead i = (s.completeRead i).offering x := by
  have hlink : (s.offering x).link = s.link := rfl
  unfold State.completeRead
  rw [hlink]
  cases s.link.snapshot with
  | none => rfl
  | some n =>
    dsimp only
    split <;> rfl

theorem identifierByte_late (b : Byte) : LateRow s (execIdentifierByte b) := by
  have hunchanged (h : ∀ x, execIdentifierByte b (s.offering x) = .next (s.quiet.offering x)) :
      LateRow s (execIdentifierByte b) := .of_offering h
  cases h : s.quiet.byteFrame
  case ident =>
    refine .of_offering (t := s.quiet.withLink { s.quiet.link with frame := identifiedFrame b }) fun x => ?_
    simp only [execIdentifierByte, State.offering_quiet, State.offering_byteFrame, h]
    rfl
  all_goals
    exact hunchanged fun x => by simp only [execIdentifierByte, State.offering_quiet, State.offering_byteFrame, h]

theorem indexBytes_late (high low : Byte) : LateRow s (execIndexBytes high low) := by
  have hunchanged (h : ∀ x, execIndexBytes high low (s.offering x) = .next (s.quiet.offering x)) :
      LateRow s (execIndexBytes high low) := .of_offering h
  cases h : s.quiet.byteFrame
  case index d =>
    cases d with
    | readFrame =>
      refine .of_offering (t := (s.quiet.withLink { s.quiet.link with frame := .read (high ++ low) }).present
        (high ++ low)) fun x => ?_
      simp only [execIndexBytes, State.offering_quiet, State.offering_byteFrame, h]
      exact congrArg _ ((s.quiet.withLink { s.quiet.link with frame := .read (high ++ low) }).present_offering (high ++ low) x)
    | writeFrame =>
      refine .of_offering (t := s.quiet.withLink { s.quiet.link with frame := .write (high ++ low) }) fun x => ?_
      simp only [execIndexBytes, State.offering_quiet, State.offering_byteFrame, h]
      rfl
  all_goals
    exact hunchanged fun x => by simp only [execIndexBytes, State.offering_quiet, State.offering_byteFrame, h]

theorem headRecordRemoval_late : LateRow s execHeadRecordRemoval := by
  have hunchanged (h : ∀ x, execHeadRecordRemoval (s.offering x) = .next (s.quiet.offering x)) :
      LateRow s execHeadRecordRemoval := .of_offering h
  cases h : s.quiet.byteFrame
  case read i =>
    refine .of_offering (t := ((s.quiet.completeRead i).withLink
      { (s.quiet.completeRead i).link with frame := .read (i + 1) }).present (i + 1)) fun x => ?_
    simp only [execHeadRecordRemoval, State.offering_quiet, State.offering_byteFrame, h, State.completeRead_offering]
    exact congrArg _ (((s.quiet.completeRead i).withLink
      { (s.quiet.completeRead i).link with frame := .read (i + 1) }).present_offering (i + 1) x)
  all_goals
    exact hunchanged fun x => by simp only [execHeadRecordRemoval, State.offering_quiet, State.offering_byteFrame, h]

theorem frameOpen_late : LateRow s execFrameOpen := by
  by_cases hmsel : s.pins.mselLow = true
  · exact .of_offering (t := s.quiet) fun _ => if_pos hmsel
  have hfalls (x : List Request) : execFrameOpen (s.offering x) =
      if s.resetHeld then .next ((s.quiet.withPins { s.pins with mselLow := true, mclkHigh := false }).offering x)
      else .next (((s.quiet.withPins { s.pins with mselLow := true, mclkHigh := false }).withLink
        { s.link.ended with frame := .ident }).offering x) := if_neg hmsel
  by_cases hheld : s.resetHeld = true
  · exact .of_offering fun x => (hfalls x).trans (if_pos hheld)
  · exact .of_offering fun x => (hfalls x).trans (if_neg hheld)

theorem frameEnd_late : LateRow s execFrameEnd := by
  by_cases hmsel : s.pins.mselLow = true
  · exact .of_offering (t := (s.quiet.withPins { s.pins with mselLow := false }).withLink s.link.ended)
      fun _ => if_pos hmsel
  · exact .of_offering (t := s.quiet) fun _ => if_neg hmsel

/-! ## The reset lines -/

theorem pwrupNFall_late : LateRow s execPwrupNFall := by
  by_cases hlow : s.pins.pwrupLow = true
  · exact .of_offering (t := s.quiet) fun _ => if_pos hlow
  · exact .of_offering (t := s.quiet.poweredOn) fun _ => if_neg hlow

theorem pwrupNRelease_late (boot : Bool) : LateRow s (execPwrupNRelease boot) := by
  by_cases hlow : s.pins.pwrupLow = true
  case neg => exact .of_offering (t := s.quiet) fun _ => if_pos (by simp [State.offering, hlow])
  have hrelease (x : List Request) : execPwrupNRelease boot (s.offering x) =
      if !boot then .next ((s.quiet.withPins { s.pins with pwrupLow := false }).offering x).acceptStanding
      else if s.pins.rstLow then .next (((s.quiet.withPins { s.pins with pwrupLow := false }).withStartUp
        { s.startUp with state := .pending }).offering x)
      else .next ((s.quiet.withPins { s.pins with pwrupLow := false }).bootStart.offering x).acceptStanding :=
    if_neg (by simp [State.offering, hlow])
  by_cases hboot : (!boot) = true
  · exact .of_accepting fun x => (hrelease x).trans (if_pos hboot)
  have hload (x : List Request) := (hrelease x).trans (if_neg hboot)
  by_cases hrst : s.pins.rstLow = true
  · exact .of_offering fun x => (hload x).trans (if_pos hrst)
  · exact .of_accepting fun x => (hload x).trans (if_neg hrst)

theorem rstNFall_late : LateRow s execRstNFall := by
  by_cases hrst : s.pins.rstLow = true
  · exact .of_offering (t := s.quiet) fun _ => if_pos hrst
  have hfalls (x : List Request) : execRstNFall (s.offering x) =
      if s.pins.pwrupLow then .next ((s.quiet.withPins { s.pins with rstLow := true }).offering x)
      else .next ((s.quiet.withPins { s.pins with rstLow := true }).lineResetTaken.offering x) := if_neg hrst
  by_cases hlow : s.pins.pwrupLow = true
  · exact .of_offering fun x => (hfalls x).trans (if_pos hlow)
  · exact .of_offering fun x => (hfalls x).trans (if_neg hlow)

theorem rstNRelease_late : LateRow s execRstNRelease := by
  by_cases hrst : s.pins.rstLow = true
  case neg => exact .of_offering (t := s.quiet) fun _ => if_pos (by simp [State.offering, hrst])
  have hrelease (x : List Request) : execRstNRelease (s.offering x) =
      if s.pins.pwrupLow then .next ((s.quiet.withPins { s.pins with rstLow := false }).offering x)
      else .next ((s.quiet.withPins { s.pins with rstLow := false }).offering x).lineReleased.acceptStanding :=
    if_neg (by simp [State.offering, hrst])
  by_cases hlow : s.pins.pwrupLow = true
  · exact .of_offering fun x => (hrelease x).trans (if_pos hlow)
  · refine .of_accepting (t := (s.quiet.withPins { s.pins with rstLow := false }).lineReleased) fun x => ?_
    rw [hrelease, if_neg hlow, State.offering_of_masked (f := State.lineReleased) (State.masked_lineReleased _)]

end

/-! ## Every command -/

/-- R97: every command but an offer does its work as with nothing offered, and then accepts what stands offered or not. -/
theorem exec_late {c : Instr} (hc : ∀ r, c ≠ .requestAcceptance r) {s : State} (h : s.Inv) : LateRow s (exec c) := by
  cases c with
  | requestAcceptance r => exact absurd rfl (hc r)
  | memGrant => exact memGrant_late s
  | memResponse k st data => exact memResponse_late s h k st data
  | memTimeout k => exact memTimeout_late s h k
  | fenceEnd k => exact fenceEnd_late s k
  | copierTake => exact copierTake_late s
  | holdLimitExpiry i => exact holdLimitExpiry_late s i
  | lockLimitExpiry j => exact lockLimitExpiry_late s j
  | closeTimerExpiry e => exact closeTimerExpiry_late s e
  | syncRisingEdge i level => exact syncRisingEdge_late s i level
  | enable => exact command_late s 0x01 (body := State.enableNamed) fun a => codeBody_late a 0x01
  | disable => exact command_late s 0x02 (body := State.disableNamed) fun a => codeBody_late a 0x02
  | suspend => exact command_late s 0x03 (body := State.suspendNamed) fun a => codeBody_late a 0x03
  | publish => exact command_late s 0x04 (body := State.publishNamed) fun a => codeBody_late a 0x04
  | rollback => exact command_late s 0x05 (body := State.rollbackNamed) fun a => codeBody_late a 0x05
  | boundary => exact command_late s 0x06 (body := State.boundaryByCommand) fun a => codeBody_late a 0x06
  | softReset => exact command_late s 0x07 (body := State.softResetByCommand) fun a => codeBody_late a 0x07
  | frameOpen => exact frameOpen_late s
  | identifierByte b => exact identifierByte_late s b
  | indexBytes hi lo => exact indexBytes_late s hi lo
  | frameEnd => exact frameEnd_late s
  | fieldWrite b => exact byteAs_late s _ b
  | windowConfigWrite b => exact byteAs_late s _ b
  | groupConfigWrite b => exact byteAs_late s _ b
  | holdWrite b => exact byteAs_late s _ b
  | closeDelayWrite b => exact byteAs_late s _ b
  | limitWrite b => exact byteAs_late s _ b
  | eventMaskWrite b => exact byteAs_late s _ b
  | overrunFlagClear => exact byteAs_late s _ 0
  | writeRefusedFlagClear => exact byteAs_late s _ 0
  | headRecordRemoval => exact headRecordRemoval_late s
  | pwrupNFall => exact pwrupNFall_late s
  | pwrupNRelease boot => exact pwrupNRelease_late s boot
  | rstNFall => exact rstNFall_late s
  | rstNRelease => exact rstNRelease_late s
  | commandCodeNamingNoCommand code => exact noCommand_late s code

/-- R97: where the promises hold, what stands offered finds nothing to be accepted into. -/
theorem State.Inv.acceptStanding_eq {s : State} (h : s.Inv) : s.acceptStanding = s := State.acceptStanding_of_shut h.offered

/-- Settles O11: an offer is accepted where a slot is free; every other command does its work as with nothing offered, and one
that does not end with acceptance leaves, by O6, nothing that could be accepted. -/
theorem offeredRequestsAreAcceptedAsSlotsFree : Obligations.OfferedRequestsAreAcceptedAsSlotsFree := by
  refine ⟨fun s r => ⟨fun h => ?_, fun i htakes => ?_⟩, fun s => ⟨State.acceptStanding_of_shut,
    fun i r rest hopen hoffered hfree hlower => ?_⟩, fun c s hinv hc => ?_⟩
  · rw [exec_requestAcceptance]
    exact congrArg _ (State.acceptStanding_of_shut (h.imp_right .inr))
  · exact exec_requestAcceptance_of_takes htakes r
  · exact State.acceptStanding_of_next (State.nextAccepted_some.2 ⟨hopen, hoffered, hfree, hlower⟩)
  · obtain ⟨t, accepts, hwork⟩ := exec_late hc hinv
    have hnone : exec c (s.offering []) = .next (t.offering []) := by
      rw [hwork [] (.inl rfl), State.finish_of_shut (.inr rfl)]
    have hself : exec c s = .next ((t.offering s.port.offered).finish accepts) := hwork s.port.offered (.inr rfl)
    refine ⟨t.offering [], hnone, ?_⟩
    show exec c s = .next (t.offering s.port.offered).acceptStanding
    cases accepts with
    | true => exact hself
    | false =>
      have hkept : (t.offering s.port.offered).Inv := (exec_safe (q := False) ⟨hinv, False.elim⟩ hself).inv
      rw [hkept.acceptStanding_eq]
      exact hself

end Sys2Proof.Machine
end
